-- ==== Sys2Proof/Word.lean ====
section
/-! DEFINITION. The word types of the block (spec/00_scope.md R8): unsigned bit vectors of the stated widths. -/

namespace Sys2Proof

/-- One byte: a wire byte, a byte of host memory, an image byte. -/
abbrev Byte := BitVec 8

/-- A command word as the host writes it to CMD (30_encoding.md R60). -/
abbrev CmdWord := BitVec 32

/-- The BCD value ENCODE and DRAW_DIGITS take (30_encoding.md R60, 42_segment_encoder.md R120). -/
abbrev Value := BitVec 16

/-- One BCD digit of a value (42_segment_encoder.md R120). -/
abbrev Nibble := BitVec 4

end Sys2Proof
end

