-- ==== Sys2Proof/Config.lean ====
section
/-! DEFINITION. What one block is built with: the open parameters of 00_scope.md R7, and opaque constants for the values the spec
does not give. The fixed parameters of R6 stand in Machine/Operands.lean. -/

namespace Sys2Proof

/-- WAIT_POLICY (00_scope.md R7). `bounded n` is Bounded(N) with N = n; R7 asks for N ≥ 1 (`Params.wellFormed`). -/
inductive WaitPolicy where
  | spinForever
  | bounded (n : Nat)
  deriving DecidableEq, Repr

/-- An entry of a digit table: the primary mask goes into the digit's own byte, the secondary mask into the next-significant
byte (42_segment_encoder.md R123). -/
structure Mask where
  prim : Byte
  sec : Byte
  deriving DecidableEq, Repr, Inhabited

/-- A digit table: one mask pair for each digit 0 to 9 (42_segment_encoder.md R123). -/
abbrev DigitTable := Vector Mask 10

/-- The open parameters (00_scope.md R7). The model assumes nothing of them but what `Params.wellFormed` says; the digit-0
constraint (R124) is `Params.digit0`, a hypothesis of the statements that need it. -/
structure Params where
  /-- BUS_ADDR -/
  busAddr : BitVec 7
  /-- CMD_ENABLE -/
  cmdEnable : Byte
  /-- CMD_DISABLE -/
  cmdDisable : Byte
  /-- UNITS_TAB -/
  unitsTab : DigitTable
  /-- TENS_TAB -/
  tensTab : DigitTable
  /-- HUNDREDS_TAB -/
  hundredsTab : DigitTable
  /-- ADDR_WIDTH -/
  addrWidth : Nat
  /-- WAIT_POLICY -/
  waitPolicy : WaitPolicy
  deriving DecidableEq, Repr

/-- How many host addresses there are: 2^ADDR_WIDTH (20_memory.md R40, R44). -/
def Params.addrSpace (p : Params) : Nat := 2 ^ p.addrWidth

/-! The values the spec leaves open: constants nothing can evaluate (DESIGN CHOICE, notes/assumptions/2.md). -/

opaque Config.busAddr : BitVec 7
opaque Config.cmdEnable : Byte
opaque Config.cmdDisable : Byte
opaque Config.addrWidthLessOne : Nat
opaque Config.unitsMask : Nat → Mask
opaque Config.tensMask : Nat → Mask
opaque Config.hundredsMask : Nat → Mask

/-- The unknown part of the digit-0 masks whose OR is the known byte `whole` (42_segment_encoder.md R124): the secondary mask is
any part of `whole`, and the primary mask any part of it that covers the rest. -/
def Config.splitSec (whole a : Byte) : Byte := a &&& whole

/-- See `Config.splitSec`. -/
def Config.splitPrim (whole a b : Byte) : Byte := (b &&& whole) ||| (whole &&& ~~~ Config.splitSec whole a)

/-- A digit table with the given entry for digit 0 and the entries of `m` for the digits 1 to 9. -/
def Config.table (zero : Mask) (m : Nat → Mask) : DigitTable :=
  #v[zero, m 1, m 2, m 3, m 4, m 5, m 6, m 7, m 8, m 9]

/-- The parameters of the block at reset: unknown values, with the digit-0 constraint of 42_segment_encoder.md R124 built in, and
WAIT_POLICY at the spec's default (92_eei_decisions.md D10; DEDUCED, notes/assumptions/3.md). -/
def Config.params : Params where
  busAddr := Config.busAddr
  cmdEnable := Config.cmdEnable
  cmdDisable := Config.cmdDisable
  unitsTab := Config.table ⟨0x1F, Config.splitSec 0xAF (Config.unitsMask 0).sec⟩ Config.unitsMask
  tensTab := Config.table
    ⟨Config.splitPrim 0xAF (Config.unitsMask 0).sec (Config.tensMask 0).prim, Config.splitSec 0x9D (Config.tensMask 0).sec⟩
    Config.tensMask
  hundredsTab := Config.table
    ⟨Config.splitPrim 0x9D (Config.tensMask 0).sec (Config.hundredsMask 0).prim, 0x50⟩ Config.hundredsMask
  addrWidth := Config.addrWidthLessOne + 1
  waitPolicy := .spinForever

end Sys2Proof
end

