-- ==== Sys2Proof/Machine/State.lean ====
section
/-! DEFINITION. The state of the machine (10_state.md R20 to R30), the moves of its agents (00_scope.md R4), why a step can stop, and the
state after power-on reset (10_state.md R33, 70_reset_and_hazards.md R180). -/

namespace Sys2Proof.Machine

/-- PHASE, the sequencer state (10_state.md R24). -/
inductive Phase where
  | off
  | idle
  | wSB
  | wAddr
  | wBtf
  | fault
  deriving DecidableEq, Repr

/-- FCODE (60_exceptions.md R160). The codes 5 to 15 are never raised, so they have no name here. -/
inductive FaultCode where
  | none
  | illegalCommand
  | notInitialised
  | busyViolation
  | imgUnwritten
  deriving DecidableEq, Repr

/-- The configuration record of the bus peripheral (10_state.md R26, 00_scope.md R6). -/
structure BusConfig where
  freqHz : Nat
  ownAddr : Nat
  /-- duty cycle `dutyHigh : dutyLow` -/
  dutyHigh : Nat
  dutyLow : Nat
  ackEnabled : Bool
  addrModeBits : Nat
  inClkMHz : Nat
  deriving DecidableEq, Repr

/-- CFG: UNCONFIGURED or a configuration (10_state.md R26). -/
inductive PeriphCfg where
  | unconfigured
  | configured (c : BusConfig)
  deriving DecidableEq, Repr

/-- A byte source of the payload PL (10_state.md R25): `lit b` is Lit(b), `mem a` is Mem(a). -/
inductive ByteSource where
  | lit (b : Byte)
  | mem (a : Nat)
  deriving DecidableEq, Repr

/-- A symbol of TRACE (30_encoding.md R66): `start` is S, `byte x` is B(x), `stop` is P. -/
inductive WireSym where
  | start
  | byte (x : Byte)
  | stop
  deriving DecidableEq, Repr

/-- A 4-byte image {b0, b1, b2, b3} (00_scope.md R8, 30_encoding.md R71). -/
structure Image where
  b0 : Byte
  b1 : Byte
  b2 : Byte
  b3 : Byte
  deriving DecidableEq, Repr

/-- What the host can do to the block's ports and to its own memory (10_state.md R21 to R23, 20_memory.md R47). -/
inductive HostAct where
  /-- Write CMD (10_state.md R21). -/
  | writeCmd (w : CmdWord)
  /-- Write BASE (10_state.md R21). -/
  | writeBase (a : Nat)
  /-- Read STATUS (10_state.md R22). -/
  | readStatus
  /-- Read IMG (10_state.md R23). -/
  | readImg
  /-- Write a byte of host memory (20_memory.md R47); the byte is readable from then on. -/
  | writeMem (a : Nat) (b : Byte)
  deriving DecidableEq, Repr

/-- One move: whose turn it is (00_scope.md R4), or the power-on event (70_reset_and_hazards.md R180). -/
inductive Move where
  | host (a : HostAct)
  | sequencer
  | busEnv
  | powerOn
  deriving DecidableEq, Repr

/-- What a host read of a port returned. -/
inductive ReadReply where
  /-- The STATUS byte (10_state.md R22). -/
  | status (v : BitVec 8)
  /-- The packed IMG word (10_state.md R23). -/
  | img (v : BitVec 32)
  /-- A read of IMG that returned no value (60_exceptions.md R163, R164). -/
  | noValue
  deriving DecidableEq, Repr

/-- Host memory HMEM as a partial map (20_memory.md R45): addresses strictly rising, and an unlisted address is not readable. -/
abbrev Memory := List Host.Cell

/-- The canonical form of a memory: addresses strictly rising. No entry can equal what an unlisted address reads as, since an
unlisted address reads as no value. -/
abbrev Memory.wf (m : Memory) : Prop := m.Pairwise (fun x y => x.1 < y.1)

/-- Why the model stops with a fault. None of these is one of the block's own fault codes: raising those is a next state. -/
inductive Fault where
  /-- Raised by the sequencer's turn when the next payload byte is a host memory read that is not admitted: the block is stuck
  and has no step (20_memory.md R44, R45, 40_bus_transport.md R90). Safe: the turns of the other agents go on in that state. -/
  | stuckRead (a : Nat)
  /-- Raised by a host write to an HMEM address outside the address space (20_memory.md R40). Safe: there is no such address. -/
  | hostWriteOutside (a : Nat)
  deriving DecidableEq, Repr

/-- Why the model gives a move no meaning. -/
inductive Refusal where
  /-- Raised by an arm of `exec` whose instruction has no meaning yet. Safe. No arm raises it now. -/
  | notModelled (mnemonic : String)
  /-- Raised by a host write of BASE with a value of more than ADDR_WIDTH bits: BASE has no such bits and the spec no such write
  (10_state.md R21). Safe. -/
  | baseTooWide (a : Nat)
  deriving DecidableEq, Repr

/-- Everything the spec gives the block (10_state.md R20 to R29), the host memory around it, and three fields of the model's own. -/
structure State where
  /-- BASE; `none` is "never written" (10_state.md R21). -/
  base : Option Nat
  /-- STATUS.BUSY (10_state.md R22). -/
  busy : Bool
  /-- STATUS.READY (10_state.md R22). -/
  ready : Bool
  /-- STATUS.TIMEOUT (10_state.md R22). -/
  timeout : Bool
  /-- STATUS.FAULTED (10_state.md R22). -/
  faulted : Bool
  /-- STATUS.FCODE (10_state.md R22). -/
  fcode : FaultCode
  /-- IMG0 to IMG3; `none` is "no value" (10_state.md R23). -/
  img : Option Image
  /-- PHASE (10_state.md R24). -/
  phase : Phase
  /-- PL (10_state.md R25). -/
  pl : List ByteSource
  /-- IDX (10_state.md R25). -/
  idx : Nat
  /-- CLK_EN (10_state.md R26). -/
  clkEn : Bool
  /-- PINS_CFG (10_state.md R26). -/
  pinsCfg : Bool
  /-- PE (10_state.md R26). -/
  pe : Bool
  /-- SWRST (10_state.md R26). -/
  swrst : Bool
  /-- CFG (10_state.md R26). -/
  cfg : PeriphCfg
  /-- EV_SB (10_state.md R27). -/
  evSB : Bool
  /-- EV_ADDR (10_state.md R27). -/
  evAddr : Bool
  /-- EV_BTF (10_state.md R27). -/
  evBtf : Bool
  /-- POLLS (10_state.md R28). -/
  polls : Nat
  /-- TRACE, oldest first (10_state.md R29). -/
  trace : List WireSym
  /-- HMEM, the host's memory (20_memory.md R40). -/
  hmem : Memory
  /-- The model's own: the open parameters this block is built with (00_scope.md R7); nothing writes it. -/
  par : Params
  /-- The model's own: the moves still to come, next first (00_scope.md R4, R5). -/
  turns : List Move
  /-- The model's own: what the host's last port read returned, `none` before the first. -/
  lastRead : Option ReadReply
  deriving DecidableEq, Repr

/-- The machine right after power-on reset (10_state.md R33, 70_reset_and_hazards.md R180). -/
def State.reset : State where
  base := none
  busy := false
  ready := false
  timeout := false
  faulted := false
  fcode := .none
  img := none
  phase := .off
  pl := []
  idx := 0
  clkEn := false
  pinsCfg := false
  pe := false
  swrst := false
  cfg := .unconfigured
  evSB := false
  evAddr := false
  evBtf := false
  polls := 0
  trace := []
  hmem := []
  par := Config.params
  turns := []
  lastRead := none

end Sys2Proof.Machine
end

