-- ==== Sys2Proof/Machine/Flags.lean ====
section
/-! DEFINITION. The flags: the STATUS byte (10_state.md R22, 60_exceptions.md R175), the fault code numbers (60_exceptions.md R160), and
the event flags with the wait each belongs to (10_state.md R27). -/

namespace Sys2Proof.Machine

/-- The number of a fault code (60_exceptions.md R160). -/
def FaultCode.code : FaultCode → BitVec 4
  | .none => 0
  | .illegalCommand => 1
  | .notInitialised => 2
  | .busyViolation => 3
  | .imgUnwritten => 4

/-- A one-bit field as a byte, for the STATUS formula. -/
def bit (b : Bool) : BitVec 8 := if b then 1 else 0

/-- STATUS = FCODE << 4 | FAULTED << 3 | TIMEOUT << 2 | READY << 1 | BUSY (60_exceptions.md R175). -/
def State.status (s : State) : BitVec 8 :=
  (s.fcode.code.setWidth 8 <<< 4) ||| (bit s.faulted <<< 3) ||| (bit s.timeout <<< 2) ||| (bit s.ready <<< 1) ||| bit s.busy

/-- The three wait states (10_state.md R24). -/
def Phase.isWait : Phase → Bool
  | .wSB => true
  | .wAddr => true
  | .wBtf => true
  | .off => false
  | .idle => false
  | .fault => false

/-- The flag the sequencer waits for in its phase (40_bus_transport.md R86); false outside the wait states. -/
def State.awaited (s : State) : Bool :=
  match s.phase with
  | .wSB => s.evSB
  | .wAddr => s.evAddr
  | .wBtf => s.evBtf
  | .off => false
  | .idle => false
  | .fault => false

/-- BusEnv's move (40_bus_transport.md R87): in a wait state, set the flag of that wait. Where the flag is already set the move
changes nothing, and outside the wait states BusEnv has no move. -/
def busAnswer (s : State) : State :=
  match s.phase with
  | .wSB => { s with evSB := true }
  | .wAddr => { s with evAddr := true }
  | .wBtf => { s with evBtf := true }
  | .off => s
  | .idle => s
  | .fault => s

/-- Consume EV_SB: clear it and restart the poll count (40_bus_transport.md R82, R91, R92). -/
def consumeSB (s : State) : State := { s with evSB := false, polls := 0 }

/-- Consume EV_ADDR (40_bus_transport.md R83, R91, R92). -/
def consumeAddr (s : State) : State := { s with evAddr := false, polls := 0 }

/-- Consume EV_BTF (40_bus_transport.md R84, R91, R92). -/
def consumeBtf (s : State) : State := { s with evBtf := false, polls := 0 }

end Sys2Proof.Machine
end

