-- ==== Sys2Proof/Machine/Operands.lean ====
section
/-! DEFINITION. The fixed parameters of 00_scope.md R6, and the operand forms: the address byte (30_encoding.md R67), the payloads
(30_encoding.md R70), the bytes of a payload (40_bus_transport.md R90), the packed IMG word (10_state.md R23). -/

namespace Sys2Proof.Machine

/-- CMD_RAMSEL (00_scope.md R6, 30_encoding.md R68). -/
def cmdRamSel : Byte := 0x44

/-- DRAW_ORIGIN (00_scope.md R6, 43_facade.md R142). -/
def drawOrigin : Byte := 3

/-- ERR_IMG (00_scope.md R6, 30_encoding.md R72). -/
def errImg : Image := ⟨0x80, 0x40, 0x42, 0x00⟩

/-- FRAC_BIT, the decimal-point indicator of byte[1] (00_scope.md R6). -/
def fracBit : Byte := 0x10

/-- THOU_BIT, the thousands marker of byte[3] (00_scope.md R6). -/
def thouBit : Byte := 0x20

/-- FIXED_CFG (00_scope.md R6, 10_state.md R26). -/
def fixedCfg : BusConfig where
  freqHz := 222222
  ownAddr := 0x00
  dutyHigh := 2
  dutyLow := 1
  ackEnabled := false
  addrModeBits := 7
  inClkMHz := 4

/-- The address byte `(BUS_ADDR << 1) | dir` (30_encoding.md R67). -/
def addrByte (p : Params) (dir : BitVec 1) : Byte := (p.busAddr.setWidth 8 <<< 1) ||| dir.setWidth 8

/-- Payload of ENABLE_DEVICE (41_display_protocol.md R100). -/
def enablePayload (p : Params) : List ByteSource := [.lit p.cmdEnable]

/-- Payload of DISABLE_DEVICE (41_display_protocol.md R101). -/
def disablePayload (p : Params) : List ByteSource := [.lit p.cmdDisable]

/-- Payload of WRITE_RAM: the command byte, the origin, then buffer byte i at BASE + i, a natural number that does not wrap
(41_display_protocol.md R102, 20_memory.md R44). -/
def wramPayload (origin count : Byte) (base : Nat) : List ByteSource :=
  [.lit cmdRamSel, .lit origin] ++ (List.range count.toNat).map (fun i => .mem (base + i))

/-- The four image bytes in the order they are sent, byte[0] first (20_memory.md R43). -/
def Image.bytes (img : Image) : List Byte := [img.b0, img.b1, img.b2, img.b3]

/-- Payload of DRAW_DIGITS: six literals (43_facade.md R141). -/
def drawPayload (img : Image) : List ByteSource :=
  [.lit cmdRamSel, .lit drawOrigin] ++ img.bytes.map .lit

/-- The IMG word: byte[i] at bits [8i+7:8i] (10_state.md R23). -/
def Image.word (img : Image) : BitVec 32 :=
  (img.b3.setWidth 32 <<< 24) ||| (img.b2.setWidth 32 <<< 16) ||| (img.b1.setWidth 32 <<< 8) ||| img.b0.setWidth 32

end Sys2Proof.Machine
end

