-- ==== Sys2Proof/Machine/Ops.lean ====
section
/-! DEFINITION. The named operations every meaning is made of: host memory (20_memory.md), raising a fault (60_exceptions.md R162), the
micro-ops (40_bus_transport.md R81 to R85), command acceptance (60_exceptions.md R161), the transaction skeleton (R89) and the
power-on event (70_reset_and_hazards.md R180). The block has no return from a fault (60_exceptions.md R168): only power-on leaves it. -/

namespace Sys2Proof.Machine

/-! ## Host memory -/

/-- The byte at an address, if it is readable (20_memory.md R45). -/
def Memory.read (m : Memory) (a : Nat) : Option Byte :=
  match m with
  | [] => none
  | c :: rest => if c.1 = a then some c.2 else Memory.read rest a

/-- A host write of one byte; the list keeps its addresses strictly rising. -/
def Memory.write (m : Memory) (a : Nat) (b : Byte) : Memory :=
  match m with
  | [] => [(a, b)]
  | c :: rest =>
    if a < c.1 then (a, b) :: c :: rest
    else if c.1 = a then (a, b) :: rest
    else c :: Memory.write rest a b

/-- The byte of host memory at an address, as the host sees it. -/
def State.readByte (s : State) (a : Nat) : Option Byte := s.hmem.read a

/-- `MemRead(a, 1)` where it is admitted: the address is inside the address space (20_memory.md R44) and the byte is readable
(R45). -/
def State.memRead (s : State) (a : Nat) : Option Byte :=
  if a < s.par.addrSpace then s.readByte a else none

/-- `fetch` of a byte source, where it is admitted (40_bus_transport.md R90). -/
def State.fetch (s : State) : ByteSource → Option Byte
  | .lit b => some b
  | .mem a => s.memRead a

/-! ## Faults -/

/-- `raise Fault(code)` (60_exceptions.md R162): the one operation that takes a fault of the block. -/
def raise (code : FaultCode) (s : State) : State :=
  { s with fcode := code, faulted := true, busy := false, phase := .fault }

/-- Power-on reset (70_reset_and_hazards.md R180): every element of the block takes its reset value. Host memory, the parameters,
the moves still to come and the host's last read are not elements of the block (10_state.md R30) and stay. -/
def powerOnReset (s : State) : State :=
  { State.reset with hmem := s.hmem, par := s.par, turns := s.turns, lastRead := s.lastRead }

/-! ## Micro-ops -/

/-- `Wire(sym)` (00_scope.md R9, 10_state.md R29). -/
def wire (x : WireSym) (s : State) : State := { s with trace := s.trace ++ [x] }

/-- BUS_RESET (40_bus_transport.md R81), its writes in the order given there. -/
def busReset (s : State) : State :=
  let s := { s with pe := false }
  let s := { s with swrst := true }
  let s := { s with swrst := false }
  let s := { s with evSB := false, evAddr := false, evBtf := false, polls := 0 }
  let s := { s with cfg := .configured fixedCfg }
  { s with pe := true }

/-- START up to its await (40_bus_transport.md R82). -/
def startCondition (s : State) : State := { wire .start s with phase := .wSB }

/-- SEND_ADDR(dir) up to its await (40_bus_transport.md R83). The sequencer only runs it with dir = 0. -/
def sendAddress (dir : BitVec 1) (s : State) : State := { wire (.byte (addrByte s.par dir)) s with phase := .wAddr }

/-- SEND_BYTE(x) up to its await (40_bus_transport.md R84). -/
def sendByte (x : Byte) (s : State) : State := { wire (.byte x) s with phase := .wBtf }

/-- STOP (40_bus_transport.md R85). -/
def stopCondition (s : State) : State := wire .stop s

/-- `complete` (00_scope.md R9). -/
def complete (s : State) : State := { s with phase := .idle, busy := false }

/-- The micro-ops by their assembler names (30_encoding.md R65). -/
inductive MicroOp where
  | rst
  | start
  | addr (dir : BitVec 1)
  | byte (x : Byte)
  | stop
  deriving DecidableEq, Repr

/-- What a micro-op does up to its await. -/
def MicroOp.run : MicroOp → State → State
  | .rst => busReset
  | .start => startCondition
  | .addr dir => sendAddress dir
  | .byte x => sendByte x
  | .stop => stopCondition

/-- What a micro-op puts on the wire (30_encoding.md R66). -/
def MicroOp.wires (p : Params) : MicroOp → List WireSym
  | .rst => []
  | .start => [.start]
  | .addr dir => [.byte (addrByte p dir)]
  | .byte x => [.byte x]
  | .stop => [.stop]

/-- The micro-op expansion of a transaction with the given payload bytes (30_encoding.md R65, 40_bus_transport.md R89). -/
def txnMicroOps (bytes : List Byte) : List MicroOp :=
  [.rst, .start, .addr 0] ++ bytes.map .byte ++ [.stop]

/-! ## Command acceptance -/

/-- The first two checks of acceptance (60_exceptions.md R161): PHASE FAULT ignores the write, BUSY faults; else `body`. -/
def accept (body : State → State) (s : State) : State :=
  if s.phase = .fault then s
  else if s.busy = true then raise .busyViolation s
  else body s

/-- The last check of acceptance, for the four transaction commands (60_exceptions.md R161). -/
def requireInit (body : State → State) (s : State) : State :=
  if s.phase = .off then raise .notInitialised s else body s

/-- Acceptance of a transaction (60_exceptions.md R161 and the first row of 40_bus_transport.md R92): TXN up to its first await. -/
def beginTxn (payload : List ByteSource) (s : State) : State :=
  startCondition (busReset { s with busy := true, timeout := false, pl := payload, idx := 0 })

/-- A host write to CMD of a word that is no command (30_encoding.md R63, 60_exceptions.md R161). -/
def illegalWord (s : State) : State := accept (raise .illegalCommand) s

end Sys2Proof.Machine
end

