-- ==== Sys2Proof/Machine/Encoder.lean ====
section
/-! DEFINITION. The segment encoder (42_segment_encoder.md): the function ENC and the ENCODE command. -/

namespace Sys2Proof.Machine

/-- N3, the thousands nibble (42_segment_encoder.md R120). -/
def thousands (v : Value) : Nibble := v.extractLsb' 12 4

/-- N2, the hundreds nibble (42_segment_encoder.md R120). -/
def hundreds (v : Value) : Nibble := v.extractLsb' 8 4

/-- N1, the tens nibble (42_segment_encoder.md R120). -/
def tens (v : Value) : Nibble := v.extractLsb' 4 4

/-- N0, the units nibble (42_segment_encoder.md R120). -/
def units (v : Value) : Nibble := v.extractLsb' 0 4

/-- The validity test, the four comparisons as the source quotes them (42_segment_encoder.md R121). -/
def invalid (v : Value) : Bool :=
  decide (v &&& 0xF000 > 0x1000) || decide (v &&& 0x0F00 > 0x0900) || decide (v &&& 0x00F0 > 0x0090)
    || decide (v &&& 0x000F > 0x0009)

/-- The entry of a digit, none for a nibble above 9 (42_segment_encoder.md R123, R127). -/
def entry (t : DigitTable) (d : Nibble) : Option Mask := t[d.toNat]?

/-- Steps 3 and 4 of ENC into a zeroed image: the decimal point and the thousands marker (42_segment_encoder.md R125). -/
def markers (v : Value) (f : Bool) : Image :=
  { b0 := 0
    b1 := if f = true then fracBit else 0
    b2 := 0
    b3 := if v &&& 0xF000 = 0x1000 then thouBit else 0 }

/-- The units digit goes into byte 0 and byte 1 (42_segment_encoder.md R125, step 5). -/
def drawUnits (m : Mask) (img : Image) : Image := { img with b0 := img.b0 ||| m.prim, b1 := img.b1 ||| m.sec }

/-- The tens digit goes into byte 1 and byte 2 (42_segment_encoder.md R125, step 5). -/
def drawTens (m : Mask) (img : Image) : Image := { img with b1 := img.b1 ||| m.prim, b2 := img.b2 ||| m.sec }

/-- The hundreds digit goes into byte 2 and byte 3 (42_segment_encoder.md R125, step 5). -/
def drawHundreds (m : Mask) (img : Image) : Image := { img with b2 := img.b2 ||| m.prim, b3 := img.b3 ||| m.sec }

/-- ENC(VALUE, F) (42_segment_encoder.md R125). The last arm is the defensive fallback of R127, which R121 makes unreachable. -/
def enc (p : Params) (v : Value) (f : Bool) : Image :=
  if invalid v then errImg
  else
    match entry p.unitsTab (units v), entry p.tensTab (tens v), entry p.hundredsTab (hundreds v) with
    | some u, some t, some h => drawHundreds h (drawTens t (drawUnits u (markers v f)))
    | _, _, _ => errImg

/-- IMG <- image. -/
def setImg (img : Image) (s : State) : State := { s with img := some img }

/-- What an accepted ENCODE does (42_segment_encoder.md R126). -/
def encodeBody (v : Value) (f : Bool) (s : State) : State :=
  { setImg (enc s.par v f) s with timeout := false }

/-- ENCODE (42_segment_encoder.md R126): legal in OFF, completes in its acceptance step. -/
def execEncode (v : Value) (f : Bool) (s : State) : Host.Outcome State Fault Refusal :=
  .next (accept (encodeBody v f) s)

end Sys2Proof.Machine
end

