-- ==== Sys2Proof/Machine/Facade.lean ====
section
/-! DEFINITION. The facade (43_facade.md): INIT and DRAW_DIGITS. -/

namespace Sys2Proof.Machine

/-- What an accepted INIT does, its writes in the order of 43_facade.md R140. -/
def initBody (s : State) : State :=
  let s := { s with clkEn := true }
  let s := { s with pinsCfg := true }
  let s := busReset s
  { s with ready := true, timeout := false, phase := .idle }

/-- INIT (43_facade.md R140): legal in OFF and IDLE, completes in its acceptance step. -/
def execInit (s : State) : Host.Outcome State Fault Refusal :=
  .next (accept initBody s)

/-- What an accepted DRAW_DIGITS does: IMG first, then the transaction (43_facade.md R141). -/
def drawBody (v : Value) (f : Bool) (s : State) : State :=
  beginTxn (drawPayload (enc s.par v f)) (setImg (enc s.par v f) s)

/-- DRAW_DIGITS (43_facade.md R141). -/
def execDraw (v : Value) (f : Bool) (s : State) : Host.Outcome State Fault Refusal :=
  .next (accept (requireInit (drawBody v f)) s)

end Sys2Proof.Machine
end

