-- ==== Sys2Proof/Machine/Protocol.lean ====
section
/-! DEFINITION. The display protocol (41_display_protocol.md): ENABLE_DEVICE, DISABLE_DEVICE, WRITE_RAM. -/

namespace Sys2Proof.Machine

/-- ENABLE_DEVICE (41_display_protocol.md R100). -/
def execEnable (s : State) : Host.Outcome State Fault Refusal :=
  .next (accept (requireInit (beginTxn (enablePayload s.par))) s)

/-- DISABLE_DEVICE (41_display_protocol.md R101). -/
def execDisable (s : State) : Host.Outcome State Fault Refusal :=
  .next (accept (requireInit (beginTxn (disablePayload s.par))) s)

/-- WRITE_RAM after the first checks: BASE must have been written (60_exceptions.md R161), and its value now is the buffer
address (10_state.md R21). -/
def wramBody (origin count : Byte) (s : State) : State :=
  match s.base with
  | none => raise .illegalCommand s
  | some b => requireInit (beginTxn (wramPayload origin count b)) s

/-- WRITE_RAM (41_display_protocol.md R102). -/
def execWram (origin count : Byte) (s : State) : Host.Outcome State Fault Refusal :=
  .next (accept (wramBody origin count) s)

end Sys2Proof.Machine
end

