-- ==== Sys2Proof/Syntax.lean ====
section
/-! DEFINITION. The six host commands, one constructor per row of spec/opcode_table.json (30_encoding.md R62). -/

namespace Sys2Proof

/-- A host command with its operands as 30_encoding.md R61 assembles them from the CMD word.
The buffer address of `wram` is not in the word: it is the BASE register when the command is accepted. -/
inductive Instr where
  /-- INIT, 43_facade.md R140. -/
  | init
  /-- ENABLE_DEVICE, 41_display_protocol.md R100. -/
  | enable
  /-- DISABLE_DEVICE, 41_display_protocol.md R101. -/
  | disable
  /-- WRITE_RAM with ORIGIN and COUNT, 41_display_protocol.md R102. -/
  | wram (origin count : Byte)
  /-- ENCODE with VALUE and the fraction flag F, 42_segment_encoder.md R126. -/
  | encode (value : Value) (f : Bool)
  /-- DRAW_DIGITS with VALUE and the fraction flag F, 43_facade.md R141. -/
  | draw (value : Value) (f : Bool)
  deriving DecidableEq, Repr

end Sys2Proof
end

