-- ==== Sys2Proof/Machine/Dispatch.lean ====
section
/-! DEFINITION. One arm per host command. -/

namespace Sys2Proof.Machine

/-- The meaning of a host command: what accepting it does (60_exceptions.md R161). -/
def exec (i : Instr) (s : State) : Host.Outcome State Fault Refusal :=
  match i with
  | .init => Sys2Proof.Machine.execInit s
  | .enable => Sys2Proof.Machine.execEnable s
  | .disable => Sys2Proof.Machine.execDisable s
  | .wram origin count => Sys2Proof.Machine.execWram origin count s
  | .encode value f => Sys2Proof.Machine.execEncode value f s
  | .draw value f => Sys2Proof.Machine.execDraw value f s

end Sys2Proof.Machine
end

