-- ==== Sys2Proof/WellFormed.lean ====
section
/-! DEFINITION. Which terms are well-formed: instructions (30_encoding.md R60, R61) and parameters (00_scope.md R7, 42_segment_encoder.md
R124). -/

namespace Sys2Proof

/-- Every operand of a command has exactly the width of its field (30_encoding.md R61) in its TYPE, so every term of `Instr` is
well-formed. The arms stand one by one so that a new operand cannot slip past. -/
def Instr.wellFormed : Instr → Bool
  | .init => true
  | .enable => true
  | .disable => true
  | .wram _origin _count => true
  | .encode _value _f => true
  | .draw _value _f => true

/-- Bounded(N) needs N ≥ 1 (00_scope.md R7). -/
def WaitPolicy.wellFormed : WaitPolicy → Bool
  | .spinForever => true
  | .bounded n => decide (1 ≤ n)

/-- ADDR_WIDTH is a positive natural and N ≥ 1 (00_scope.md R7). -/
def Params.wellFormed (p : Params) : Bool :=
  decide (0 < p.addrWidth) && p.waitPolicy.wellFormed

/-- The digit-0 constraint, the four equations of 42_segment_encoder.md R124. -/
def Params.digit0 (p : Params) : Bool :=
  p.unitsTab[0].prim == 0x1F
    && (p.unitsTab[0].sec ||| p.tensTab[0].prim) == 0xAF
    && (p.tensTab[0].sec ||| p.hundredsTab[0].prim) == 0x9D
    && p.hundredsTab[0].sec == 0x50

end Sys2Proof
end

