-- ==== Sys2Proof/Decode.lean ====
section
/-! DEFINITION. Decoding of the CMD word (30_encoding.md R60 to R64) and, after it, the encoder. A command is one 32-bit register write, not
bytes in memory, so the decoder takes the word itself. -/

namespace Sys2Proof

/-- Why a word is no command (30_encoding.md R63). -/
inductive DecodeError where
  /-- OP is 0x0 or 0x7 to 0xF. -/
  | reservedOpcode (op : BitVec 4)
  /-- OP names a command, but a bit of an RSV field is 1. -/
  | reservedBits (op : BitVec 4)
  deriving DecidableEq, Repr

/-- The operation a word names, without its operands: a row of the opcode map (30_encoding.md R62). -/
inductive Opcode where
  | init | enable | disable | wram | encode | draw
  deriving DecidableEq, Repr

/-- The match column of 30_encoding.md R62. -/
def Opcode.pattern : Opcode → CmdWord
  | .init => 0x00000001
  | .enable => 0x00000002
  | .disable => 0x00000003
  | .wram => 0x00000004
  | .encode => 0x00000005
  | .draw => 0x00000006

/-- The mask column of 30_encoding.md R62. -/
def Opcode.mask : Opcode → CmdWord
  | .init => 0xFFFFFFFF
  | .enable => 0xFFFFFFFF
  | .disable => 0xFFFFFFFF
  | .wram => 0xFF0000FF
  | .encode => 0x0000FFEF
  | .draw => 0x0000FFEF

/-- "(CMD & mask_X) = match_X" (30_encoding.md R62). -/
def Opcode.hits (x : Opcode) (w : CmdWord) : Bool := (w &&& x.mask) == x.pattern

/-- The rows of the opcode map, in the order of spec/opcode_table.json. -/
def Opcode.rows : List Opcode := [.init, .enable, .disable, .wram, .encode, .draw]

/-- OP = CMD[3:0] (30_encoding.md R60). -/
def opField (w : CmdWord) : BitVec 4 := w.extractLsb' 0 4

/-- VALUE = CMD[31:16] (30_encoding.md R61). -/
def valueField (w : CmdWord) : Value := w.extractLsb' 16 16

/-- F = CMD[4] (30_encoding.md R61). -/
def fField (w : CmdWord) : Bool := w.getLsbD 4

/-- ORIGIN = CMD[15:8] (30_encoding.md R61). -/
def originField (w : CmdWord) : Byte := w.extractLsb' 8 8

/-- COUNT = CMD[23:16] (30_encoding.md R61). -/
def countField (w : CmdWord) : Byte := w.extractLsb' 16 8

/-- The command of a word that hits row `x`, its operands assembled as 30_encoding.md R61 says. -/
def Opcode.assemble (x : Opcode) (w : CmdWord) : Instr :=
  match x with
  | .init => .init
  | .enable => .enable
  | .disable => .disable
  | .wram => .wram (originField w) (countField w)
  | .encode => .encode (valueField w) (fField w)
  | .draw => .draw (valueField w) (fField w)

/-- Why a word that hits no row is illegal: the two bullets of 30_encoding.md R63. -/
def illegalReason (w : CmdWord) : DecodeError :=
  if opField w = 0 ∨ 7 ≤ opField w then .reservedOpcode (opField w) else .reservedBits (opField w)

/-- The decoder: the row the word hits (30_encoding.md R62), or the reason it hits none (R63). -/
def decode (w : CmdWord) : Except DecodeError Instr :=
  match Opcode.rows.find? (fun x => x.hits w) with
  | some x => .ok (x.assemble w)
  | none => .error (illegalReason w)

/-- The instruction the decoder reads from the word `w` of `nbits` bits, bits above `nbits` zero. Every row of the table has 32. -/
def decodeTableWord (nbits w : Nat) : Option Instr :=
  if nbits ≤ 32 then
    match decode (BitVec.ofNat 32 (w % 2 ^ nbits)) with
    | .ok i => some i
    | .error _ => none
  else none

/-- The row a command belongs to. -/
def Instr.opcode : Instr → Opcode
  | .init => .init
  | .enable => .enable
  | .disable => .disable
  | .wram _ _ => .wram
  | .encode _ _ => .encode
  | .draw _ _ => .draw

/-- The fraction flag at bit 4 of a word: `F << 4`. -/
def fBit (f : Bool) : CmdWord := if f then 0x10 else 0

/-- The encoder: the word of a command, by the formulas of 41_display_protocol.md R100 to R102, 42_segment_encoder.md R126 and
43_facade.md R140, R141. -/
def encode : Instr → CmdWord
  | .init => 0x00000001
  | .enable => 0x00000002
  | .disable => 0x00000003
  | .wram origin count => (count.setWidth 32 <<< 16) ||| (origin.setWidth 32 <<< 8) ||| 0x4
  | .encode value f => (value.setWidth 32 <<< 16) ||| fBit f ||| 0x5
  | .draw value f => (value.setWidth 32 <<< 16) ||| fBit f ||| 0x6

end Sys2Proof
end

