-- ==== Sys2Proof/Machine/HostPort.lean ====
section
/-! DEFINITION. What the host does beside writing CMD: BASE (10_state.md R21), STATUS (R22), IMG (R23, 60_exceptions.md R164), its own
memory (20_memory.md R47), and the assembler's `wram` line (30_encoding.md R65). -/

namespace Sys2Proof.Machine

/-- A host write of BASE: the value is kept until the next write (10_state.md R21). BASE has ADDR_WIDTH bits; a wider value is
refused by name. -/
def hostWriteBase (a : Nat) (s : State) : Host.Outcome State Fault Refusal :=
  if a < s.par.addrSpace then .next { s with base := some a } else .refused (.baseTooWide a)

/-- A host read of STATUS has no side effect on the block (10_state.md R22). -/
def hostReadStatus (s : State) : State := { s with lastRead := some (.status s.status) }

/-- A host read of IMG (60_exceptions.md R163, R164): the packed word where IMG holds a value; otherwise no value, and a fault
unless the block is in PHASE FAULT already. -/
def hostReadImg (s : State) : State :=
  match s.img with
  | some img => { s with lastRead := some (.img img.word) }
  | none =>
    let s := { s with lastRead := some .noValue }
    if s.phase = .fault then s else raise .imgUnwritten s

/-- A host write of one byte of its own memory (20_memory.md R47); an address outside the address space does not exist (R40). -/
def hostWriteMem (a : Nat) (b : Byte) (s : State) : Host.Outcome State Fault Refusal :=
  if a < s.par.addrSpace then .next { s with hmem := s.hmem.write a b } else .fault (.hostWriteOutside a)

/-- The two host writes of the assembler line `wram origin, count, base` (30_encoding.md R65). -/
def wramLine (origin count : Byte) (base : Nat) : List Move :=
  [.host (.writeBase base), .host (.writeCmd (encode (.wram origin count)))]

end Sys2Proof.Machine
end

