-- ==== Sys2Proof/Machine/Sequencer.lean ====
section
/-! DEFINITION. The sequencer's own steps: the rows of 40_bus_transport.md R92 below the acceptance row. -/

namespace Sys2Proof.Machine

/-- What the sequencer answers: a next state, or the model's fault where it is stuck. -/
abbrev Answer := Host.Outcome State Fault Refusal

/-- A timeout (40_bus_transport.md R91): release the bus and return to IDLE with TIMEOUT set. -/
def timeOut (s : State) : State :=
  complete { wire .stop s with polls := 0, timeout := true }

/-- The sequencer's turn in a wait state whose flag is 0. Under SpinForever it has no step and holds: nothing changes
(40_bus_transport.md R86). Under Bounded(N) the turn is a poll miss, and the N-th one times out (R91). -/
def missedPoll (s : State) : State :=
  match s.par.waitPolicy with
  | .spinForever => s
  | .bounded n => if s.polls + 1 < n then { s with polls := s.polls + 1 } else timeOut s

/-- The end of a transaction: STOP, then `complete` (40_bus_transport.md R89). -/
def finishTxn (s : State) : State := complete (stopCondition s)

/-- Send payload byte `i`, or end the transaction where the payload has no byte `i` (40_bus_transport.md R89, R92). A host memory
byte that is not admitted leaves the sequencer stuck (R90). -/
def sendPayload (i : Nat) (s : State) : Answer :=
  match s.pl[i]? with
  | none => .next (finishTxn s)
  | some (.lit b) => .next { sendByte b s with idx := i + 1 }
  | some (.mem a) =>
    match s.memRead a with
    | some b => .next { sendByte b s with idx := i + 1 }
    | none => .fault (.stuckRead a)

/-- The sequencer's turn (40_bus_transport.md R92). -/
def sequencerTurn (s : State) : Answer :=
  match s.phase with
  | .off => .next s
  | .idle => .next s
  | .fault => .next s
  | .wSB => if s.evSB = true then .next (sendAddress 0 (consumeSB s)) else .next (missedPoll s)
  | .wAddr => if s.evAddr = true then sendPayload 0 (consumeAddr s) else .next (missedPoll s)
  | .wBtf => if s.evBtf = true then sendPayload s.idx (consumeBtf s) else .next (missedPoll s)

end Sys2Proof.Machine
end

