-- ==== Sys2Proof/Machine/Turns.lean ====
section
/-! DEFINITION. What a move does: the host's writes and reads, the sequencer's turn, BusEnv's answer, power-on (00_scope.md R4). -/

namespace Sys2Proof.Machine

/-- A host write of the word `w` to CMD: the command it decodes to runs, or the word is illegal (60_exceptions.md R161). -/
def hostWriteCmd (w : CmdWord) (s : State) : Host.Outcome State Fault Refusal :=
  match decode w with
  | .ok i => exec i s
  | .error _ => .next (illegalWord s)

/-- What the host does in its turn. -/
def hostTurn (a : HostAct) (s : State) : Host.Outcome State Fault Refusal :=
  match a with
  | .writeCmd w => hostWriteCmd w s
  | .writeBase b => hostWriteBase b s
  | .readStatus => .next (hostReadStatus s)
  | .readImg => .next (hostReadImg s)
  | .writeMem b x => hostWriteMem b x s

/-- A move, made in a state it has already been taken from. -/
def makeMove (m : Move) (s : State) : Host.Outcome State Fault Refusal :=
  match m with
  | .host a => hostTurn a s
  | .sequencer => sequencerTurn s
  | .busEnv => .next (busAnswer s)
  | .powerOn => .next (powerOnReset s)

end Sys2Proof.Machine
end

