-- ==== Sys2Proof/Machine/Step.lean ====
section
/-! DEFINITION. One step of the machine: the next move of the list `turns` is made (00_scope.md R4, R5). The block fetches no instructions
(20_memory.md R50): a command runs in the step in which the host writes its word to CMD (60_exceptions.md R161). -/

namespace Sys2Proof.Machine

/-- One step: the next move of `turns`; where the list is empty, nothing more comes from outside and it is the sequencer's turn
(DESIGN CHOICE, notes/assumptions/1.md). -/
def step (s : State) : Host.Outcome State Fault Refusal :=
  match s.turns with
  | [] => sequencerTurn s
  | m :: ms => makeMove m { s with turns := ms }

/-- `s` with a host write of the word `w` as its next move (DESIGN CHOICE, notes/assumptions/9.md). -/
def State.withFetchWord (s : State) (nbits w : Nat) : State :=
  { s with turns := .host (.writeCmd (BitVec.ofNat 32 (w % 2 ^ nbits))) :: s.turns }

end Sys2Proof.Machine
end

