-- ==== Sys2Proof/Safety.lean ====
section
/-! DEFINITION. What claims about runs are stated in: the invariant of the state (10_state.md R34 and what the other state rules
imply), the shape of TRACE (30_encoding.md R70, 40_bus_transport.md R88), and runs of steps. -/

namespace Sys2Proof.Machine

/-- A payload as 41_display_protocol.md R105 has it: not empty, at most 257 sources, the first a literal. -/
def payloadOk (pl : List ByteSource) : Prop :=
  (∃ b rest, pl = .lit b :: rest) ∧ pl.length ≤ 257

/-- What holds in every state a block of the spec can be in. -/
structure State.Inv (s : State) : Prop where
  /-- The parameters are those 00_scope.md R7 admits. -/
  par_ok : s.par.wellFormed = true
  /-- FAULTED = 1 exactly when PHASE = FAULT (10_state.md R34). -/
  faulted_iff : s.faulted = true ↔ s.phase = .fault
  /-- BUSY = 1 exactly in the wait states (10_state.md R34). -/
  busy_iff : s.busy = true ↔ s.phase.isWait = true
  /-- FCODE names a fault exactly in PHASE FAULT (60_exceptions.md R162). -/
  fcode_iff : s.fcode = .none ↔ s.phase ≠ .fault
  /-- IDLE and the wait states are reached only through INIT, which sets READY (10_state.md R22, R24). -/
  ready_of : s.phase = .idle ∨ s.phase.isWait = true → s.ready = true
  /-- PHASE OFF is the phase before INIT (10_state.md R24). -/
  ready_off : s.phase = .off → s.ready = false
  /-- Nothing is on the wire before INIT (10_state.md R24, 60_exceptions.md R161). -/
  off_trace : s.phase = .off → s.trace = []
  /-- CLK_EN and PINS_CFG are set by INIT alone, together with READY (10_state.md R26). -/
  clk_iff : s.clkEn = s.ready
  pins_iff : s.pinsCfg = s.ready
  /-- The first BUS_RESET is INIT's, and every BUS_RESET enables the peripheral (10_state.md R26). -/
  pe_iff : s.pe = s.ready
  /-- SWRST is never observed as 1 (10_state.md R26). -/
  swrst_zero : s.swrst = false
  /-- CFG is FIXED_CFG once configured, and configured exactly when enabled (10_state.md R26). -/
  cfg_on : s.pe = true → s.cfg = .configured fixedCfg
  cfg_off : s.pe = false → s.cfg = .unconfigured
  /-- A flag is set only in its own wait state, or is left from it by a fault (10_state.md R27, 60_exceptions.md R162). -/
  evSB_phase : s.evSB = true → s.phase = .wSB ∨ s.phase = .fault
  evAddr_phase : s.evAddr = true → s.phase = .wAddr ∨ s.phase = .fault
  evBtf_phase : s.evBtf = true → s.phase = .wBtf ∨ s.phase = .fault
  /-- No two flags are set at once (40_bus_transport.md R87). -/
  events_le_one : (s.evSB && s.evAddr) = false ∧ (s.evSB && s.evBtf) = false ∧ (s.evAddr && s.evBtf) = false
  /-- TIMEOUT ends a command, so it is 0 while one is in progress, and always 0 under SpinForever (10_state.md R22). -/
  timeout_idle : s.timeout = true → s.busy = false ∧ s.par.waitPolicy ≠ .spinForever
  /-- BASE holds ADDR_WIDTH bits (10_state.md R21). -/
  base_lt : ∀ b, s.base = some b → b < s.par.addrSpace
  /-- Host memory is in its canonical form and inside the address space (20_memory.md R40). -/
  mem_wf : s.hmem.wf
  mem_lt : ∀ a b, (a, b) ∈ s.hmem → a < s.par.addrSpace
  /-- The payload of a transaction in progress (41_display_protocol.md R105). -/
  payload : s.phase.isWait = true → payloadOk s.pl
  /-- IDX counts the payload bytes transmitted (10_state.md R25). -/
  idx_zero : s.phase = .wSB ∨ s.phase = .wAddr → s.idx = 0
  idx_pos : s.phase = .wBtf → 0 < s.idx
  idx_le : s.idx ≤ s.pl.length
  /-- POLLS is always 0 under SpinForever and below N under Bounded(N) (10_state.md R28, 40_bus_transport.md R91). -/
  polls_spin : s.par.waitPolicy = .spinForever → s.polls = 0
  polls_lt : ∀ n, s.par.waitPolicy = .bounded n → s.polls < n

/-- The whole frame of a transaction with the given payload bytes (30_encoding.md R70). -/
def fullFrame (p : Params) (bytes : List Byte) : List WireSym :=
  .start :: .byte (addrByte p 0) :: bytes.map .byte ++ [.stop]

/-- A frame that is over: `S A0 p0 ... P` with at least one payload byte (30_encoding.md R70), or, where a bounded wait expired
early, `S P` or `S A0 P` (40_bus_transport.md R91). -/
def IsFrame (p : Params) (l : List WireSym) : Prop :=
  (∃ bytes : List Byte, bytes ≠ [] ∧ l = fullFrame p bytes) ∨
  (p.waitPolicy ≠ .spinForever ∧ (l = [.start, .stop] ∨ l = [.start, .byte (addrByte p 0), .stop]))

/-- The bytes sent so far agree with the literals of the payload. -/
def agrees (pl : List ByteSource) (bytes : List Byte) : Prop :=
  ∀ k b, k < bytes.length → pl[k]? = some (.lit b) → bytes[k]? = some b

/-- What TRACE ends with in each phase: the frame in progress (40_bus_transport.md R88). A fault abandons it without a stop
(60_exceptions.md R162). -/
def State.openFrame (s : State) (l : List WireSym) : Prop :=
  match s.phase with
  | .off => l = []
  | .idle => l = []
  | .wSB => l = [.start]
  | .wAddr => l = [.start, .byte (addrByte s.par 0)]
  | .wBtf => ∃ bytes : List Byte, bytes.length = s.idx ∧ agrees s.pl bytes ∧ l = .start :: .byte (addrByte s.par 0) :: bytes.map .byte
  | .fault => l = [] ∨ l = [.start] ∨ ∃ bytes : List Byte, l = .start :: .byte (addrByte s.par 0) :: bytes.map .byte

/-- TRACE is a row of frames that are over and then the frame in progress (30_encoding.md R70, 10_state.md R29). -/
def State.TraceShape (s : State) : Prop :=
  ∃ (frames : List (List WireSym)) (last : List WireSym), (∀ l ∈ frames, IsFrame s.par l) ∧ s.openFrame last ∧ s.trace = frames.flatten ++ last

/-- `k` turns of a BusEnv that answers at once: its answer, then the sequencer's turn that consumes it (95_test_vectors.md §2.5). -/
def answered : Nat → List Move
  | 0 => []
  | k + 1 => .busEnv :: .sequencer :: answered k

/-- `k` steps, stopping at the first step that gives no next state. -/
def run : Nat → State → Host.Outcome State Fault Refusal
  | 0, s => .next s
  | k + 1, s =>
    match step s with
    | .next t => run k t
    | .fault r => .fault r
    | .refused r => .refused r

/-- The payload of a transaction command accepted in a state (30_encoding.md R70); none for INIT and ENCODE, and for a WRITE_RAM
whose BASE was never written. -/
def txnPayload (s : State) : Instr → Option (List ByteSource)
  | .init => none
  | .encode _ _ => none
  | .enable => some [.lit s.par.cmdEnable]
  | .disable => some [.lit s.par.cmdDisable]
  | .wram origin count =>
    s.base.map (fun b => .lit 0x44 :: .lit origin :: (List.range count.toNat).map (fun k => .mem (b + k)))
  | .draw v f =>
    let img := enc s.par v f
    some [.lit 0x44, .lit 3, .lit img.b0, .lit img.b1, .lit img.b2, .lit img.b3]

/-- The IMG register after the acceptance of a command (42_segment_encoder.md R126, 43_facade.md R141). -/
def imgAfter (s : State) : Instr → Option Image
  | .init => s.img
  | .enable => s.img
  | .disable => s.img
  | .wram _ _ => s.img
  | .encode v f => some (enc s.par v f)
  | .draw v f => some (enc s.par v f)

/-- The bytes a payload sends, where every host memory read of it is admitted (40_bus_transport.md R90). -/
def State.fetchAll (s : State) : List ByteSource → Option (List Byte)
  | [] => some []
  | x :: xs =>
    match s.fetch x, s.fetchAll xs with
    | some b, some bs => some (b :: bs)
    | _, _ => none

/-- The state after the acceptance step of a transaction command, written out (first row of 40_bus_transport.md R92). -/
def State.txnStarted (s : State) (payload : List ByteSource) : State :=
  { s with
    busy := true, timeout := false, pl := payload, idx := 0
    pe := true, swrst := false, cfg := .configured fixedCfg
    evSB := false, evAddr := false, evBtf := false, polls := 0
    trace := s.trace ++ [.start], phase := .wSB }

/-- The state after `raise Fault(code)`, written out (60_exceptions.md R162). -/
def State.faultedWith (s : State) (code : FaultCode) : State :=
  { s with fcode := code, faulted := true, busy := false, phase := .fault }

/-- STATUS and PHASE agree (10_state.md R34). -/
def State.statusAgrees (s : State) : Prop :=
  (s.faulted = true ↔ s.phase = .fault) ∧ (s.busy = true ↔ s.phase = .wSB ∨ s.phase = .wAddr ∨ s.phase = .wBtf)

end Sys2Proof.Machine
end

