-- ==== Sys2Proof/Certificates/Slice0/Obligations.lean ====
section
/-! DEFINITION. The statements for the provers, from the numbered rules of spec/. -/

open Sys2Proof Sys2Proof.Machine

/-! ## Encoding (30_encoding.md Part A) -/

/-- Decoding the encoded word of a well-formed command gives the command back, with every operand at every value. -/
def Obligations.DecodeOfEncode : Prop :=
  ∀ i : Instr, i.wellFormed = true → decode (encode i) = .ok i

/-- A word that decodes is the encoded word of what it decodes to: no bit of the word is dropped. -/
def Obligations.EncodeOfDecode : Prop :=
  ∀ (w : CmdWord) (i : Instr), decode w = .ok i → encode i = w

/-- R62: a word decodes as X exactly when (CMD & mask_X) = match_X, and at most one X matches. -/
def Obligations.DecodesExactlyOnMatch : Prop :=
  ∀ w : CmdWord,
    (decode w = .ok .init ↔ w &&& 0xFFFFFFFF = 0x00000001) ∧
    (decode w = .ok .enable ↔ w &&& 0xFFFFFFFF = 0x00000002) ∧
    (decode w = .ok .disable ↔ w &&& 0xFFFFFFFF = 0x00000003) ∧
    ((∃ o c, decode w = .ok (.wram o c)) ↔ w &&& 0xFF0000FF = 0x00000004) ∧
    ((∃ v f, decode w = .ok (.encode v f)) ↔ w &&& 0x0000FFEF = 0x00000005) ∧
    ((∃ v f, decode w = .ok (.draw v f)) ↔ w &&& 0x0000FFEF = 0x00000006) ∧
    ([(0xFFFFFFFF, 0x00000001), (0xFFFFFFFF, 0x00000002), (0xFFFFFFFF, 0x00000003), (0xFF0000FF, 0x00000004),
      (0x0000FFEF, 0x00000005), (0x0000FFEF, 0x00000006)].countP
        (fun r : CmdWord × CmdWord => w &&& r.1 == r.2) ≤ 1)

/-- R61: where each operand comes from. BASEADDR is the BASE register at acceptance. -/
def Obligations.OperandAssembly : Prop :=
  (∀ w o c, decode w = .ok (.wram o c) → o = w.extractLsb' 8 8 ∧ c = w.extractLsb' 16 8) ∧
  (∀ w v f, decode w = .ok (.encode v f) → v = w.extractLsb' 16 16 ∧ f = w.getLsbD 4) ∧
  (∀ w v f, decode w = .ok (.draw v f) → v = w.extractLsb' 16 16 ∧ f = w.getLsbD 4) ∧
  (∀ (s : State) o c b k, s.phase = .idle → s.busy = false → s.base = some b → k < c.toNat →
    ∃ t, exec (.wram o c) s = .next t ∧ t.pl[2 + k]? = some (.mem (b + k)))

/-- R63: which words are illegal, and that writing one to CMD raises ILLEGAL_COMMAND with no other effect (where the block is not in
PHASE FAULT and not busy: the checks that come first). -/
def Obligations.IllegalWordsFault : Prop :=
  ∀ w : CmdWord,
    let op := (w.extractLsb' 0 4).toNat
    let illegal := op = 0 ∨ 7 ≤ op ∨ ((op = 1 ∨ op = 2 ∨ op = 3) ∧ w.extractLsb' 4 28 ≠ 0) ∨
      (op = 4 ∧ (w.extractLsb' 24 8 ≠ 0 ∨ w.extractLsb' 4 4 ≠ 0)) ∨ ((op = 5 ∨ op = 6) ∧ w.extractLsb' 5 11 ≠ 0)
    (illegal ↔ ∀ i, decode w ≠ .ok i) ∧
    (illegal → ∀ (s : State) (ts : List Move), s.turns = .host (.writeCmd w) :: ts → s.phase ≠ .fault → s.busy = false →
      step s = .next ({ s with turns := ts }.faultedWith .illegalCommand))

/-- A few command words written out bit by bit from 30_encoding.md R60 and R62 (95_test_vectors.md §2.4). -/
def Obligations.SampleWordsDecode : Prop :=
  decode 0b00000000000000000000000000000001 = .ok .init ∧
  decode 0b00000000000000000000000000000010 = .ok .enable ∧
  decode 0b00000000000000000000000000000011 = .ok .disable ∧
  decode 0b00000000_00000010_00000101_0000_0100 = .ok (.wram 0x05 2) ∧
  decode 0b00000000_11111111_11111111_0000_0100 = .ok (.wram 0xFF 255) ∧
  decode 0b0010000000000000_00000000000_1_0101 = .ok (.encode 0x2000 true) ∧
  decode 0b0001000000000000_00000000000_0_0110 = .ok (.draw 0x1000 false) ∧
  decode 0b00000000000000000000000000000111 = .error (.reservedOpcode 7) ∧
  decode 0b00000001000000000000000000000100 = .error (.reservedBits 4) ∧
  decode 0b00000000000000000000000000100101 = .error (.reservedBits 5)

/-! ## A step -/

/-- A step whose move is a host write of a command's word runs that command, in the state the move has been taken from; so does the
step after `withFetchWord`. Which agent a step belongs to is said by the next move of `turns`; with no move left it is the sequencer
(the model's own convention, notes/assumptions/1.md). The load of a word by withFetchWord is the model's own
(notes/assumptions/9.md). -/
def Obligations.StepRunsDecodedCommand : Prop :=
  (∀ (s : State) w ts i, s.turns = .host (.writeCmd w) :: ts → decode w = .ok i → i.wellFormed = true →
    step s = exec i { s with turns := ts }) ∧
  (∀ (s : State) (w : Nat) i, decodeTableWord 32 w = some i → step (s.withFetchWord 32 w) = exec i s) ∧
  (∀ (s : State) a ts, s.turns = .host a :: ts → step s = hostTurn a { s with turns := ts }) ∧
  (∀ (s : State) ts, s.turns = .sequencer :: ts → step s = sequencerTurn { s with turns := ts }) ∧
  (∀ (s : State) ts, s.turns = .busEnv :: ts → step s = .next (busAnswer { s with turns := ts })) ∧
  (∀ (s : State) ts, s.turns = .powerOn :: ts → step s = .next (powerOnReset { s with turns := ts })) ∧
  (∀ s : State, s.turns = [] → step s = sequencerTurn s)

/-- What ends a run of the model, by name: the stuck read, a host write outside host memory, a BASE value wider than BASE. No
command is among them (the model's own names, notes/assumptions/4.md and 6.md). -/
def Obligations.StopsByName : Prop :=
  (∀ (s : State) r, step s = .fault r →
    (∃ a, r = .stuckRead a ∧ s.memRead a = none ∧ (s.turns = [] ∨ s.turns.head? = some .sequencer)) ∨
    (∃ a b, r = .hostWriteOutside a ∧ s.turns.head? = some (.host (.writeMem a b)) ∧ s.par.addrSpace ≤ a)) ∧
  (∀ (s : State) r, step s = .refused r →
    ∃ a, r = .baseTooWide a ∧ s.turns.head? = some (.host (.writeBase a)) ∧ s.par.addrSpace ≤ a)

/-! ## Command acceptance and faults (60_exceptions.md) -/

/-- R161: the checks of a CMD write, in their order, and what each leads to. -/
def Obligations.CommandAcceptance : Prop :=
  ∀ (w : CmdWord) (s : State),
    (s.phase = .fault → hostTurn (.writeCmd w) s = .next s) ∧
    (s.phase ≠ .fault → s.busy = true → hostTurn (.writeCmd w) s = .next (s.faultedWith .busyViolation)) ∧
    (s.phase ≠ .fault → s.busy = false →
      ((∀ i, decode w ≠ .ok i) → hostTurn (.writeCmd w) s = .next (s.faultedWith .illegalCommand)) ∧
      (∀ o c, decode w = .ok (.wram o c) → s.base = none →
        hostTurn (.writeCmd w) s = .next (s.faultedWith .illegalCommand)) ∧
      (∀ i, decode w = .ok i →
        (∀ pl, txnPayload s i = some pl →
          (s.phase = .off → hostTurn (.writeCmd w) s = .next (s.faultedWith .notInitialised)) ∧
          (s.phase ≠ .off → hostTurn (.writeCmd w) s = .next ({ s with img := imgAfter s i }.txnStarted pl))) ∧
        (i = .init → hostTurn (.writeCmd w) s = .next
          { s with clkEn := true, pinsCfg := true, pe := true, swrst := false, cfg := .configured fixedCfg,
                   evSB := false, evAddr := false, evBtf := false, polls := 0,
                   ready := true, timeout := false, phase := .idle }) ∧
        (∀ v f, i = .encode v f → hostTurn (.writeCmd w) s = .next { s with img := some (enc s.par v f), timeout := false })))

/-- What raising a fault changes (60_exceptions.md R162). -/
def Obligations.RaiseChangesOnlyStatusAndPhase : Prop :=
  ∀ (c : FaultCode) (s : State),
    raise c s = { s with fcode := c, faulted := true, busy := false, phase := .fault }

/-- R163: PHASE FAULT is sticky and quiescent. -/
def Obligations.FaultIsStickyAndQuiescent : Prop :=
  ∀ s : State, s.phase = .fault →
    (∀ t, sequencerTurn s = .next t → t = s) ∧
    busAnswer s = s ∧
    (∀ w, hostTurn (.writeCmd w) s = .next s) ∧
    hostTurn .readStatus s = .next { s with lastRead := some (.status s.status) } ∧
    (∀ img, s.img = some img → hostTurn .readImg s = .next { s with lastRead := some (.img img.word) }) ∧
    (s.img = none → hostTurn .readImg s = .next { s with lastRead := some .noValue }) ∧
    (∀ t, step s = .next t → s.turns.head? ≠ some .powerOn →
      t.phase = .fault ∧ t.fcode = s.fcode ∧ t.faulted = s.faulted ∧ t.trace = s.trace) ∧
    (∀ ts, s.turns = .powerOn :: ts → ∃ t, step s = .next t ∧ t.phase = .off ∧ t.fcode = .none ∧ t.faulted = false)

/-- Where the transaction commands trap (60_exceptions.md R160, R161): before INIT they raise NOT_INITIALISED, and a WRITE_RAM whose
BASE was never written raises ILLEGAL_COMMAND in every phase but FAULT, each with no other effect. -/
def Obligations.TransactionTraps : Prop :=
  (∀ s : State, s.phase = .off → s.busy = false →
    exec .enable s = .next (s.faultedWith .notInitialised) ∧
    exec .disable s = .next (s.faultedWith .notInitialised) ∧
    (∀ o c b, s.base = some b → exec (.wram o c) s = .next (s.faultedWith .notInitialised)) ∧
    (∀ v f, exec (.draw v f) s = .next (s.faultedWith .notInitialised))) ∧
  (∀ (s : State) o c, s.phase ≠ .fault → s.busy = false → s.base = none →
    exec (.wram o c) s = .next (s.faultedWith .illegalCommand))

/-- R185: any CMD write while BUSY = 1 faults, whether the word is a command or not, and abandons the transaction in progress. -/
def Obligations.BusyWriteFaults : Prop :=
  ∀ (s : State) w, s.phase ≠ .fault → s.busy = true →
    ∃ t, hostTurn (.writeCmd w) s = .next t ∧ t.fcode = .busyViolation ∧ t.faulted = true ∧ t.busy = false ∧
      t.phase = .fault ∧ t.trace = s.trace ∧ ∀ u, sequencerTurn t = .next u → u = t

/-- The STATUS formula with the code numbers of R160, and the five worked values (60_exceptions.md R175, whose values the spec marks
"[derived: from rules R160, R162 and 10_state.md rule R22]"). -/
def Obligations.StatusAfterFaults : Prop :=
  (∀ s : State, s.status.toNat =
    s.fcode.code.toNat * 16 + s.faulted.toNat * 8 + s.timeout.toNat * 4 + s.ready.toNat * 2 + s.busy.toNat) ∧
  FaultCode.none.code = 0 ∧ FaultCode.illegalCommand.code = 1 ∧ FaultCode.notInitialised.code = 2 ∧
  FaultCode.busyViolation.code = 3 ∧ FaultCode.imgUnwritten.code = 4 ∧
  (∃ t, exec .enable State.reset = .next t ∧ t.status = 0x28) ∧
  (∃ r, exec .init State.reset = .next r ∧
    (illegalWord r).status = 0x1A ∧
    (∃ b, exec .enable r = .next b ∧ ∀ w, ∃ t, hostTurn (.writeCmd w) b = .next t ∧ t.status = 0x3A) ∧
    (∃ t, hostTurn .readImg r = .next t ∧ t.status = 0x4A)) ∧
  (∃ t, hostTurn .readImg State.reset = .next t ∧ t.status = 0x48)

/-! ## What each command does -/

/-- R140: the word of INIT, its whole result, that a second INIT changes nothing more, its one fault, and the example. -/
def Obligations.InitResult : Prop :=
  encode .init = 0x00000001 ∧
  (∀ s : State, s.phase ≠ .fault → s.busy = false →
    exec .init s = .next
      { s with clkEn := true, pinsCfg := true, pe := true, swrst := false, cfg := .configured fixedCfg,
               evSB := false, evAddr := false, evBtf := false, polls := 0,
               ready := true, timeout := false, phase := .idle }) ∧
  (∀ s t : State, s.phase ≠ .fault → s.busy = false → exec .init s = .next t → exec .init t = .next t) ∧
  (∀ s : State, s.phase ≠ .fault → s.busy = true → exec .init s = .next (s.faultedWith .busyViolation)) ∧
  (∃ t, exec .init State.reset = .next t ∧ t.phase = .idle ∧ t.status = 0x02 ∧ t.clkEn = true ∧ t.pinsCfg = true ∧ t.pe = true ∧
    t.cfg = .configured fixedCfg ∧ t.trace = [])

/-- ENABLE_DEVICE, DISABLE_DEVICE and WRITE_RAM start their transactions, the buffer of WRITE_RAM at BASE (41_display_protocol.md
R100 to R102, 40_bus_transport.md R92). -/
def Obligations.DisplayCommandsStart : Prop :=
  ∀ s : State, s.phase = .idle → s.busy = false →
    exec .enable s = .next (s.txnStarted [.lit s.par.cmdEnable]) ∧
    exec .disable s = .next (s.txnStarted [.lit s.par.cmdDisable]) ∧
    (∀ o c b, s.base = some b → exec (.wram o c) s =
      .next (s.txnStarted (.lit 0x44 :: .lit o :: (List.range c.toNat).map (fun k => .mem (b + k)))))

/-- R126: the word of ENCODE, its whole result in one step, in OFF as in IDLE, for valid and invalid values, its one fault, and the
example (under the digit-0 constraint of R124). -/
def Obligations.EncodeResult : Prop :=
  (∀ v f, encode (.encode v f) = (v.setWidth 32 <<< 16) ||| ((if f then 1 else 0 : CmdWord) <<< 4) ||| 0x5) ∧
  (∀ (s : State) v f, s.phase ≠ .fault → s.busy = false →
    exec (.encode v f) s = .next { s with img := some (enc s.par v f), timeout := false }) ∧
  (∀ (s : State) v f, s.phase ≠ .fault → s.busy = true → exec (.encode v f) s = .next (s.faultedWith .busyViolation)) ∧
  (∀ s : State, s.phase ≠ .fault → s.busy = false → s.par.digit0 = true →
    ∃ t img, hostTurn (.writeCmd 0x00000015) s = .next t ∧ t.img = some img ∧
      img = { b0 := 0x1F, b1 := 0xBF, b2 := 0x9D, b3 := 0x50 } ∧ img.word = 0x509DBF1F)

/-- DRAW_DIGITS writes IMG and starts its transaction (43_facade.md R141). -/
def Obligations.DrawStart : Prop :=
  ∀ (s : State) v f, s.phase = .idle → s.busy = false →
    exec (.draw v f) s =
      .next ({ s with img := some (enc s.par v f) }.txnStarted
        [.lit 0x44, .lit 3, .lit (enc s.par v f).b0, .lit (enc s.par v f).b1, .lit (enc s.par v f).b2,
          .lit (enc s.par v f).b3])

/-! ## What each command leaves unchanged -/

/-- Frame of the four transaction commands. STATUS.BUSY, TIMEOUT, FAULTED and FCODE, PHASE, PL, IDX, PE, SWRST, CFG, the event
flags, POLLS and TRACE may change; IMG only by DRAW_DIGITS. -/
def Obligations.TransactionFrame : Prop :=
  ∀ (i : Instr) (s t : State), (i = .enable ∨ i = .disable ∨ (∃ o c, i = .wram o c) ∨ ∃ v f, i = .draw v f) →
    exec i s = .next t →
    t.base = s.base ∧ t.ready = s.ready ∧ t.clkEn = s.clkEn ∧ t.pinsCfg = s.pinsCfg ∧
    t.hmem = s.hmem ∧ t.par = s.par ∧ t.turns = s.turns ∧ t.lastRead = s.lastRead ∧
    (∀ a, t.readByte a = s.readByte a) ∧ ((∀ v f, i ≠ .draw v f) → t.img = s.img)

/-- Frame of ENCODE: only IMG and TIMEOUT change, or, where it faults, FCODE, FAULTED, BUSY and PHASE. -/
def Obligations.EncodeFrame : Prop :=
  ∀ v f (s t : State), exec (.encode v f) s = .next t →
    t.base = s.base ∧ t.ready = s.ready ∧ t.pl = s.pl ∧ t.idx = s.idx ∧ t.clkEn = s.clkEn ∧ t.pinsCfg = s.pinsCfg ∧
    t.pe = s.pe ∧ t.swrst = s.swrst ∧ t.cfg = s.cfg ∧ t.evSB = s.evSB ∧ t.evAddr = s.evAddr ∧ t.evBtf = s.evBtf ∧
    t.polls = s.polls ∧ t.trace = s.trace ∧ t.hmem = s.hmem ∧ t.par = s.par ∧ t.turns = s.turns ∧
    t.lastRead = s.lastRead ∧ (∀ a, t.readByte a = s.readByte a) ∧
    ((t.busy = s.busy ∧ t.faulted = s.faulted ∧ t.fcode = s.fcode ∧ t.phase = s.phase) ∨
      (t.img = s.img ∧ t.timeout = s.timeout ∧ t.phase = .fault))

/-- Frame of INIT: BASE, IMG, PL, IDX, TRACE and host memory stay; where it faults, only FCODE, FAULTED, BUSY and PHASE change. -/
def Obligations.InitFrame : Prop :=
  ∀ s t : State, exec .init s = .next t →
    t.base = s.base ∧ t.img = s.img ∧ t.pl = s.pl ∧ t.idx = s.idx ∧ t.trace = s.trace ∧ t.hmem = s.hmem ∧
    t.par = s.par ∧ t.turns = s.turns ∧ t.lastRead = s.lastRead ∧ (∀ a, t.readByte a = s.readByte a) ∧
    ((t.busy = s.busy ∧ t.faulted = s.faulted ∧ t.fcode = s.fcode) ∨
      (t.ready = s.ready ∧ t.timeout = s.timeout ∧ t.clkEn = s.clkEn ∧ t.pinsCfg = s.pinsCfg ∧ t.pe = s.pe ∧
        t.swrst = s.swrst ∧ t.cfg = s.cfg ∧ t.evSB = s.evSB ∧ t.evAddr = s.evAddr ∧ t.evBtf = s.evBtf ∧
        t.polls = s.polls ∧ t.phase = .fault))

/-- Frame of a sequencer turn (40_bus_transport.md R92): it never writes BASE, READY, FAULTED, FCODE, IMG, PL, CLK_EN, PINS_CFG, PE,
SWRST, CFG or host memory. -/
def Obligations.SequencerFrame : Prop :=
  ∀ s t : State, sequencerTurn s = .next t →
    t.base = s.base ∧ t.ready = s.ready ∧ t.faulted = s.faulted ∧ t.fcode = s.fcode ∧ t.img = s.img ∧ t.pl = s.pl ∧
    t.clkEn = s.clkEn ∧ t.pinsCfg = s.pinsCfg ∧ t.pe = s.pe ∧ t.swrst = s.swrst ∧ t.cfg = s.cfg ∧ t.hmem = s.hmem ∧
    t.par = s.par ∧ t.turns = s.turns ∧ t.lastRead = s.lastRead ∧ (∀ a, t.readByte a = s.readByte a)

/-! ## Micro-ops and the sequencer (40_bus_transport.md) -/

/-- R81: BUS_RESET, twice the same as once. -/
def Obligations.BusResetEffect : Prop :=
  ∀ s : State,
    busReset s = { s with pe := true, swrst := false, cfg := .configured fixedCfg, evSB := false, evAddr := false,
                          evBtf := false, polls := 0 } ∧
    busReset (busReset s) = busReset s

/-- R67: the address byte holds BUS_ADDR in bits 7 to 1 and the direction in bit 0, and the one address byte the sequencer sends has
direction 0. -/
def Obligations.AddressByte : Prop :=
  (∀ p d, (addrByte p d).extractLsb' 1 7 = p.busAddr ∧ (addrByte p d).extractLsb' 0 1 = d) ∧
  (∀ p, addrByte p 0 = p.busAddr.setWidth 8 <<< 1) ∧
  (∀ s : State, s.phase = .wSB → s.evSB = true →
    ∃ t, sequencerTurn s = .next t ∧ t.trace = s.trace ++ [.byte (s.par.busAddr.setWidth 8 <<< 1)])

/-- Each micro-op appends its own wire symbols and nothing else to TRACE (30_encoding.md R65, R66), and the expansion of a
transaction puts its whole frame on the wire (R70). -/
def Obligations.MicroOpWire : Prop :=
  (∀ (m : MicroOp) (s : State), (m.run s).trace = s.trace ++ m.wires s.par) ∧
  (∀ p bytes, (txnMicroOps bytes).flatMap (·.wires p) = fullFrame p bytes)

/-- Every row of the step table (40_bus_transport.md R92, which the spec marks "[derived: from rules R81 to R91]"). A row without a
step says that a turn of the sequencer changes nothing. -/
def Obligations.SequencerStepTable : Prop :=
  ∀ s : State,
    (∀ i pl, s.phase = .idle → s.busy = false → txnPayload s i = some pl →
      exec i s = .next ({ s with img := imgAfter s i }.txnStarted pl)) ∧
    (s.phase = .wSB → s.evSB = true → sequencerTurn s = .next
      { s with evSB := false, polls := 0, trace := s.trace ++ [.byte (s.par.busAddr.setWidth 8 <<< 1)], phase := .wAddr }) ∧
    (∀ x b, s.phase = .wAddr → s.evAddr = true → s.pl[0]? = some x → s.fetch x = some b → sequencerTurn s = .next
      { s with evAddr := false, polls := 0, trace := s.trace ++ [.byte b], idx := 1, phase := .wBtf }) ∧
    (∀ x b, s.phase = .wBtf → s.evBtf = true → s.pl[s.idx]? = some x → s.fetch x = some b → sequencerTurn s = .next
      { s with evBtf := false, polls := 0, trace := s.trace ++ [.byte b], idx := s.idx + 1, phase := .wBtf }) ∧
    (s.phase = .wBtf → s.evBtf = true → s.idx = s.pl.length → sequencerTurn s = .next
      { s with evBtf := false, polls := 0, trace := s.trace ++ [.stop], busy := false, phase := .idle }) ∧
    (∀ n, s.phase.isWait = true → s.awaited = false → s.par.waitPolicy = .bounded n →
      (s.polls + 1 < n → sequencerTurn s = .next { s with polls := s.polls + 1 }) ∧
      (s.polls + 1 = n → sequencerTurn s = .next
        { s with polls := 0, trace := s.trace ++ [.stop], timeout := true, busy := false, phase := .idle })) ∧
    (s.phase.isWait = true → s.awaited = false → s.par.waitPolicy = .spinForever → ∀ t, sequencerTurn s = .next t → t = s) ∧
    (s.phase = .off ∨ s.phase = .idle ∨ s.phase = .fault → ∀ t, sequencerTurn s = .next t → t = s) ∧
    (s.phase = .wAddr → payloadOk s.pl → ∀ r, sequencerTurn s ≠ .fault r)

/-- BusEnv's move sets the one flag of the wait in progress, changes nothing else, and clears nothing (40_bus_transport.md R87). -/
def Obligations.BusEnvMoves : Prop :=
  ∀ s : State,
    (s.phase = .wSB → busAnswer s = { s with evSB := true }) ∧
    (s.phase = .wAddr → busAnswer s = { s with evAddr := true }) ∧
    (s.phase = .wBtf → busAnswer s = { s with evBtf := true }) ∧
    (s.phase.isWait = false → busAnswer s = s) ∧
    (s.awaited = true → busAnswer s = s)

/-- Under SpinForever a wait whose event never comes holds for ever: no number of the sequencer's turns changes anything
(40_bus_transport.md R86, 70_reset_and_hazards.md R187). That a turn without a step is a step of the model that changes nothing is
the model's own convention (notes/assumptions/1.md). -/
def Obligations.SpinForeverHolds : Prop :=
  ∀ (s : State) (k : Nat), s.par.waitPolicy = .spinForever → s.phase.isWait = true → s.awaited = false →
    (s.turns = [] → run k s = .next s) ∧
    (∀ ts, s.turns = List.replicate k .sequencer ++ ts → run k s = .next { s with turns := ts })

/-- Under Bounded(N) a wait whose event never comes counts N - 1 poll misses and times out at the N-th (40_bus_transport.md R91).
That an empty list of moves is the sequencer's turn is the model's own convention (notes/assumptions/1.md). -/
def Obligations.BoundedWaitTimesOut : Prop :=
  ∀ (s : State) (n : Nat), s.par.waitPolicy = .bounded n → s.phase.isWait = true → s.awaited = false →
    s.polls = 0 → s.turns = [] →
    (∀ k, k < n → run k s = .next { s with polls := k }) ∧
    (1 ≤ n → run n s = .next
      { s with polls := 0, trace := s.trace ++ [.stop], timeout := true, busy := false, phase := .idle })

/-- Buffer byte k of an accepted WRITE_RAM is read at BASE + k, a natural number that does not wrap (20_memory.md R44); an address
past the end of the address space leaves the sequencer stuck at that byte (the fault stuckRead is the model's name for it,
notes/assumptions/4.md). -/
def Obligations.BufferAddressesDoNotWrap : Prop :=
  (∀ (s : State) o c b k, s.phase = .idle → s.busy = false → s.base = some b → k < c.toNat →
    ∃ t, exec (.wram o c) s = .next t ∧ t.pl[2 + k]? = some (.mem (b + k))) ∧
  (∀ (s : State) b k, s.phase = .wBtf → s.evBtf = true → s.pl[s.idx]? = some (.mem (b + k)) →
    2 ^ s.par.addrWidth ≤ b + k → sequencerTurn s = .fault (.stuckRead (b + k)))

/-- A host memory byte is sent exactly where it is admitted, with the value host memory holds in that step; otherwise the sequencer
is stuck (20_memory.md R45 to R47, 40_bus_transport.md R90; the fault stuckRead is the model's name for it, notes/assumptions/4.md).
-/
def Obligations.BufferReadOrStuck : Prop :=
  ∀ (s : State) a, s.phase = .wBtf → s.evBtf = true → s.pl[s.idx]? = some (.mem a) →
    (∀ b, a < 2 ^ s.par.addrWidth → s.readByte a = some b →
      ∃ t, sequencerTurn s = .next t ∧ t.trace = s.trace ++ [.byte b] ∧ t.idx = s.idx + 1 ∧ t.hmem = s.hmem) ∧
    (2 ^ s.par.addrWidth ≤ a ∨ s.readByte a = none → sequencerTurn s = .fault (.stuckRead a))

/-! ## Whole transactions -/

/-- A transaction whose bytes are all admitted and whose events all come runs to its end in 2 * (L + 2) steps: the frame is on the
wire, the block is IDLE, and nothing else has changed (40_bus_transport.md R89, R92, 95_test_vectors.md §2.5). The answers of BusEnv
are moves of the model's own list (notes/assumptions/1.md). -/
def Obligations.TransactionRunsToCompletion : Prop :=
  ∀ (s : State) (bytes : List Byte) (ts : List Move),
    s.phase = .wSB → s.evSB = false → s.evAddr = false → s.evBtf = false →
    s.pl ≠ [] → s.fetchAll s.pl = some bytes → s.turns = answered (bytes.length + 2) ++ ts →
    run (2 * (bytes.length + 2)) s = .next
      { s with turns := ts, phase := .idle, busy := false, idx := bytes.length, polls := 0,
               trace := s.trace ++ .byte (addrByte s.par 0) :: bytes.map .byte ++ [.stop] }

/-- ENABLE_DEVICE and DISABLE_DEVICE on the wire: `S A0 CMD_ENABLE P` and `S A0 CMD_DISABLE P` (41_display_protocol.md R100, R101).
-/
def Obligations.EnableDisableOnTheWire : Prop :=
  ∀ (s : State) ts, s.phase = .idle → s.busy = false →
    (s.turns = .host (.writeCmd (encode .enable)) :: answered 3 ++ ts →
      ∃ t, run 7 s = .next t ∧ t.phase = .idle ∧ t.busy = false ∧ t.img = s.img ∧ t.turns = ts ∧
        t.trace = s.trace ++ [.start, .byte (addrByte s.par 0), .byte s.par.cmdEnable, .stop]) ∧
    (s.turns = .host (.writeCmd (encode .disable)) :: answered 3 ++ ts →
      ∃ t, run 7 s = .next t ∧ t.phase = .idle ∧ t.busy = false ∧ t.img = s.img ∧ t.turns = ts ∧
        t.trace = s.trace ++ [.start, .byte (addrByte s.par 0), .byte s.par.cmdDisable, .stop])

/-- R103: no coalescing. Two transaction commands in a row, the same or not, put two whole frames on the wire, each after a
BUS_RESET of its own, whatever the peripheral held before; in particular two ENABLE_DEVICE. -/
def Obligations.NoCoalescing : Prop :=
  (∀ (s : State) i pl bytes j pl' bytes' ts, s.phase = .idle → s.busy = false →
    txnPayload s i = some pl → s.fetchAll pl = some bytes → txnPayload s j = some pl' → s.fetchAll pl' = some bytes' →
    s.turns = .host (.writeCmd (encode i)) :: answered (bytes.length + 2) ++
      (.host (.writeCmd (encode j)) :: answered (bytes'.length + 2) ++ ts) →
    ∃ t u, run (2 * (bytes.length + 2) + 1) s = .next t ∧ run (2 * (bytes'.length + 2) + 1) t = .next u ∧
      t.phase = .idle ∧ t.busy = false ∧ t.trace = s.trace ++ fullFrame s.par bytes ∧
      exec j t = .next ({ t with img := imgAfter t j }.txnStarted pl') ∧
      u.phase = .idle ∧ u.busy = false ∧ u.trace = s.trace ++ fullFrame s.par bytes ++ fullFrame s.par bytes') ∧
  (∀ p : Params, fullFrame p [p.cmdEnable] ++ fullFrame p [p.cmdEnable] =
    [.start, .byte (addrByte p 0), .byte p.cmdEnable, .stop, .start, .byte (addrByte p 0), .byte p.cmdEnable, .stop])

/-- WRITE_RAM on the wire: `S A0 44 ORIGIN M[BASE] ... M[BASE+COUNT-1] P` (41_display_protocol.md R102, R106). -/
def Obligations.WramOnTheWire : Prop :=
  ∀ (s : State) o (c : Byte) b (data : List Byte) ts, s.phase = .idle → s.busy = false → s.base = some b →
    data.length = c.toNat → b + c.toNat ≤ 2 ^ s.par.addrWidth →
    (∀ k, k < c.toNat → s.readByte (b + k) = data[k]?) →
    s.turns = .host (.writeCmd (encode (.wram o c))) :: answered (c.toNat + 4) ++ ts →
    ∃ t, run (2 * (c.toNat + 4) + 1) s = .next t ∧ t.phase = .idle ∧ t.busy = false ∧ t.img = s.img ∧ t.hmem = s.hmem ∧
      t.trace = s.trace ++ [.start, .byte (addrByte s.par 0), .byte 0x44, .byte o] ++ data.map .byte ++ [.stop]

/-- R104: WRITE_RAM with COUNT = 0 sends the two header bytes and reads no host memory, whatever host memory holds; BASE must have
been written. -/
def Obligations.EmptyRamWrite : Prop :=
  (∀ (s : State) o b ts (m : Memory), s.phase = .idle → s.busy = false → s.base = some b →
    s.turns = .host (.writeCmd (encode (.wram o 0))) :: answered 4 ++ ts →
    ∃ t, run 9 { s with hmem := m } = .next t ∧ t.phase = .idle ∧ t.busy = false ∧ t.faulted = s.faulted ∧
      t.trace = s.trace ++ [.start, .byte (addrByte s.par 0), .byte 0x44, .byte o, .stop]) ∧
  (∀ (s : State) o, s.phase = .idle → s.busy = false → s.base = none →
    exec (.wram o 0) s = .next (s.faultedWith .illegalCommand))

/-- R142: DRAW_DIGITS always sends 0x44, origin 3 and exactly four data bytes, image byte[0] first, for every VALUE, valid or not.
-/
def Obligations.DrawOnTheWire : Prop :=
  ∀ (s : State) v f ts, s.phase = .idle → s.busy = false →
    s.turns = .host (.writeCmd (encode (.draw v f))) :: answered 8 ++ ts →
    ∃ t, run 17 s = .next t ∧ t.phase = .idle ∧ t.busy = false ∧ t.img = some (enc s.par v f) ∧ t.hmem = s.hmem ∧
      t.trace = s.trace ++ [.start, .byte (addrByte s.par 0), .byte 0x44, .byte 3, .byte (enc s.par v f).b0,
        .byte (enc s.par v f).b1, .byte (enc s.par v f).b2, .byte (enc s.par v f).b3, .stop]

/-- DRAW_DIGITS appends the same TRACE as WRITE_RAM with ORIGIN 3 and COUNT 4 over a buffer that holds ENC(VALUE, F); it needs no
host memory, and it writes IMG (43_facade.md R143, which the spec marks "[derived: from rule R141 and 41_display_protocol.md rule
R102]"). -/
def Obligations.DrawEqualsWram : Prop :=
  ∀ (s : State) v f b ts (m : Memory), s.phase = .idle → s.busy = false → s.base = some b →
    b + 4 ≤ 2 ^ s.par.addrWidth →
    (∀ k, k < 4 → s.readByte (b + k) = (enc s.par v f).bytes[k]?) →
    ∃ t u, run 17 { s with hmem := m, turns := .host (.writeCmd (encode (.draw v f))) :: answered 8 ++ ts } = .next t ∧
      run 17 { s with turns := .host (.writeCmd (encode (.wram 3 4))) :: answered 8 ++ ts } = .next u ∧
      t.trace = u.trace ∧ t.trace = s.trace ++ fullFrame s.par (0x44 :: 3 :: (enc s.par v f).bytes) ∧
      t.img = some (enc s.par v f) ∧ u.img = s.img

/-- After the acceptance step of any transaction command the peripheral is freshly configured, whatever was left behind: with any
values there, the accepted command gives the same state (70_reset_and_hazards.md R186, which the spec marks "[derived: from
40_bus_transport.md rules R81 and R89]"). -/
def Obligations.ConfiguredAfterAcceptance : Prop :=
  (∀ (s : State) i pl, s.phase = .idle → s.busy = false → txnPayload s i = some pl →
    ∃ t, exec i s = .next t ∧ t.phase = .wSB ∧ t.pe = true ∧ t.swrst = false ∧ t.evSB = false ∧ t.evAddr = false ∧
      t.evBtf = false ∧ t.cfg = .configured { freqHz := 222222, ownAddr := 0x00, dutyHigh := 2, dutyLow := 1,
                                              ackEnabled := false, addrModeBits := 7, inClkMHz := 4 }) ∧
  (∀ (s : State) i pl (pe swrst evSB evAddr evBtf timeout : Bool) cfg polls pl' idx,
    s.phase = .idle → s.busy = false → txnPayload s i = some pl →
    exec i { s with pe := pe, swrst := swrst, evSB := evSB, evAddr := evAddr, evBtf := evBtf, timeout := timeout, cfg := cfg,
                    polls := polls, pl := pl', idx := idx } = exec i s)

/-- The payload shapes of the accepted transaction commands (41_display_protocol.md R105, which the spec marks "[derived: from rules
R100 to R102 and 43_facade.md rule R141]"). -/
def Obligations.PayloadShapes : Prop :=
  ∀ (s t : State) i pl, s.phase = .idle → s.busy = false → txnPayload s i = some pl → exec i s = .next t →
    payloadOk t.pl ∧
    (i = .enable ∨ i = .disable → t.pl.length = 1) ∧
    (∀ o c, i = .wram o c → t.pl.length = 2 + c.toNat ∧ t.pl.length ≤ 257 ∧
      (∃ x y rest, t.pl = .lit x :: .lit y :: rest ∧ ∀ z ∈ rest, ∃ a, z = .mem a)) ∧
    (∀ v f, i = .draw v f → t.pl.length = 6 ∧ ∀ z ∈ t.pl, ∃ x, z = .lit x)

/-! ## The encoder (42_segment_encoder.md) -/

/-- The validity test, in both of its forms (42_segment_encoder.md R121; the spec marks the second "[derived: equivalence from rule
R120]"). -/
def Obligations.ValidityTest : Prop :=
  ∀ v : Value,
    (invalid v = true ↔ v &&& 0xF000 > 0x1000 ∨ v &&& 0x0F00 > 0x0900 ∨ v &&& 0x00F0 > 0x0090 ∨ v &&& 0x000F > 0x0009) ∧
    (invalid v = true ↔ 2 ≤ (v.extractLsb' 12 4).toNat ∨ 10 ≤ (v.extractLsb' 8 4).toNat ∨
      10 ≤ (v.extractLsb' 4 4).toNat ∨ 10 ≤ (v.extractLsb' 0 4).toNat) ∧
    (invalid v = false → v ≤ 0x1999) ∧ invalid 0x1999 = false

/-- R122, R72: an invalid value gives the error image for both values of F; so does every value with a thousands nibble above 1
(R129); the packed word of the error image. -/
def Obligations.InvalidGivesErrorImage : Prop :=
  (∀ p v f, invalid v = true → enc p v f = { b0 := 0x80, b1 := 0x40, b2 := 0x42, b3 := 0x00 }) ∧
  (∀ p (v : Value) f, 2 ≤ (v.extractLsb' 12 4).toNat → enc p v f = { b0 := 0x80, b1 := 0x40, b2 := 0x42, b3 := 0x00 }) ∧
  errImg = { b0 := 0x80, b1 := 0x40, b2 := 0x42, b3 := 0x00 } ∧
  errImg.word = 0x00424080

/-- The closed form of ENC for a valid value, the error image for an invalid one, and that the steps 3 to 5 may come in any order:
every two of the decimal point, the thousands marker and the three digits commute (42_segment_encoder.md R125, which the spec marks
"[derived: closed form and order independence from the pseudocode]"). -/
def Obligations.EncoderClosedForm : Prop :=
  (∀ p v f, invalid v = true → enc p v f = errImg) ∧
  (∀ (p : Params) (v : Value) (f : Bool), invalid v = false →
    ∃ u t h, p.unitsTab[(v.extractLsb' 0 4).toNat]? = some u ∧ p.tensTab[(v.extractLsb' 4 4).toNat]? = some t ∧
      p.hundredsTab[(v.extractLsb' 8 4).toNat]? = some h ∧
      enc p v f =
        { b0 := u.prim
          b1 := u.sec ||| t.prim ||| (if f then 0x10 else 0)
          b2 := t.sec ||| h.prim
          b3 := h.sec ||| (if v.extractLsb' 12 4 = 1 then 0x20 else 0) }) ∧
  (∀ u t h img (point thousand : Image → Image),
    (∀ x, point x = { x with b1 := x.b1 ||| 0x10 }) → (∀ x, thousand x = { x with b3 := x.b3 ||| 0x20 }) →
    drawUnits u (drawTens t img) = drawTens t (drawUnits u img) ∧
    drawUnits u (drawHundreds h img) = drawHundreds h (drawUnits u img) ∧
    drawTens t (drawHundreds h img) = drawHundreds h (drawTens t img) ∧
    point (thousand img) = thousand (point img) ∧
    point (drawUnits u img) = drawUnits u (point img) ∧ point (drawTens t img) = drawTens t (point img) ∧
    point (drawHundreds h img) = drawHundreds h (point img) ∧
    thousand (drawUnits u img) = drawUnits u (thousand img) ∧ thousand (drawTens t img) = drawTens t (thousand img) ∧
    thousand (drawHundreds h img) = drawHundreds h (thousand img))

/-- 42_segment_encoder.md R128 item 3: for a valid value the fraction flag sets bit 0x10 of byte[1] and changes nothing else. -/
def Obligations.FractionSetsOneBit : Prop :=
  ∀ p v, invalid v = false →
    enc p v true = { enc p v false with b1 := (enc p v false).b1 ||| 0x10 } ∧ (enc p v true).b1.getLsbD 4 = true

/-- 42_segment_encoder.md R128 item 4: for a valid value the thousands digit 1 sets bit 0x20 of byte[3] in addition to the hundreds
digit's secondary mask, and the thousands digit 0 adds nothing. -/
def Obligations.ThousandsMarker : Prop :=
  ∀ (p : Params) (v : Value) f, invalid v = false →
    ∃ h, p.hundredsTab[(v.extractLsb' 8 4).toNat]? = some h ∧
      (v.extractLsb' 12 4 = 1 → (enc p v f).b3 = h.sec ||| 0x20 ∧ (enc p v f).b3.getLsbD 5 = true) ∧
      (v.extractLsb' 12 4 = 0 → (enc p v f).b3 = h.sec)

/-- 42_segment_encoder.md R128 item 5: which digits each byte of the image of a valid value depends on. -/
def Obligations.ByteIndependence : Prop :=
  ∀ p v v' f f', invalid v = false → invalid v' = false →
    (units v = units v' → (enc p v f).b0 = (enc p v' f').b0) ∧
    (units v = units v' → tens v = tens v' → f = f' → (enc p v f).b1 = (enc p v' f').b1) ∧
    (tens v = tens v' → hundreds v = hundreds v' → (enc p v f).b2 = (enc p v' f').b2) ∧
    (hundreds v = hundreds v' → thousands v = thousands v' → (enc p v f).b3 = (enc p v' f').b3)

/-- Under the digit-0 constraint (42_segment_encoder.md R124) the images of 0x0000 and 0x1000 are the known bytes
(95_test_vectors.md §2.2), and the constraint holds at reset. That the tables of the reset state meet it is the model's choice of
the two the spec allows (notes/assumptions/14.md). -/
def Obligations.DigitZeroImages : Prop :=
  (∀ p : Params, p.digit0 = true →
    enc p 0x0000 false = { b0 := 0x1F, b1 := 0xAF, b2 := 0x9D, b3 := 0x50 } ∧
    enc p 0x0000 true = { b0 := 0x1F, b1 := 0xBF, b2 := 0x9D, b3 := 0x50 } ∧
    enc p 0x1000 false = { b0 := 0x1F, b1 := 0xAF, b2 := 0x9D, b3 := 0x70 } ∧
    enc p 0x1000 true = { b0 := 0x1F, b1 := 0xBF, b2 := 0x9D, b3 := 0x70 }) ∧
  State.reset.par.digit0 = true

/-! ## Host ports, memory, reset -/

/-- A host write of BASE is kept, and a host read of STATUS returns the byte, with no side effect on the block (10_state.md R21, R22).
That a BASE write is accepted in every phase, in FAULT and while BUSY = 1 too, is read from the spec by inference
(notes/assumptions/10.md). The reply is kept in the model's own field (notes/assumptions/7.md). -/
def Obligations.BaseAndStatusPorts : Prop :=
  (∀ (s : State) b, b < 2 ^ s.par.addrWidth → hostTurn (.writeBase b) s = .next { s with base := some b }) ∧
  (∀ s : State, hostTurn .readStatus s = .next { s with lastRead := some (.status s.status) })

/-- R164: a read of IMG that holds no value faults in any phase but FAULT and returns no value; a read of IMG that ENCODE or
DRAW_DIGITS has written returns the packed word and has no side effect. -/
def Obligations.ImgReads : Prop :=
  (∀ s : State, s.img = none → s.phase ≠ .fault →
    hostTurn .readImg s = .next ({ s with lastRead := some .noValue }.faultedWith .imgUnwritten)) ∧
  (∀ (s : State) img, s.img = some img → hostTurn .readImg s = .next { s with lastRead := some (.img img.word) })

/-- The packing of the IMG word: byte[i] at bits [8i+7:8i] (10_state.md R23). -/
def Obligations.ImgPacking : Prop :=
  ∀ img : Image,
    img.word.extractLsb' 0 8 = img.b0 ∧ img.word.extractLsb' 8 8 = img.b1 ∧ img.word.extractLsb' 16 8 = img.b2 ∧
    img.word.extractLsb' 24 8 = img.b3

/-- Only ENCODE and DRAW_DIGITS, and power-on reset, change IMG (10_state.md R23). -/
def Obligations.ImgWriters : Prop :=
  ∀ s t : State, step s = .next t → t.img ≠ s.img →
    s.turns.head? = some .powerOn ∨
    ∃ w v f, s.turns.head? = some (.host (.writeCmd w)) ∧ (decode w = .ok (.encode v f) ∨ decode w = .ok (.draw v f)) ∧
      t.img = some (enc s.par v f)

/-- Who may change what, and to which value. The parameters: no step. READY, CLK_EN and PINS_CFG: INIT sets them and power-on reset
clears them. PE and CFG: the BUS_RESET of INIT and of a transaction command's acceptance sets them, and power-on reset clears them
(10_state.md R22, R26, 70_reset_and_hazards.md R181). BASE: the host's BASE write and power-on reset (10_state.md R21). A byte of
host memory: the host's write of that byte (20_memory.md R40). The last two clauses say that the accepted commands do set them.
That power-on reset keeps host memory and the parameters is read from the spec by inference (notes/assumptions/13.md). -/
def Obligations.WhoWritesWhat : Prop :=
  ∀ s t : State, step s = .next t →
    t.par = s.par ∧
    (t.ready ≠ s.ready ∨ t.clkEn ≠ s.clkEn ∨ t.pinsCfg ≠ s.pinsCfg →
      (s.turns.head? = some .powerOn ∧ t.ready = false ∧ t.clkEn = false ∧ t.pinsCfg = false) ∨
      (∃ w, s.turns.head? = some (.host (.writeCmd w)) ∧ decode w = .ok .init ∧
        t.ready = true ∧ t.clkEn = true ∧ t.pinsCfg = true)) ∧
    (t.pe ≠ s.pe ∨ t.cfg ≠ s.cfg →
      (s.turns.head? = some .powerOn ∧ t.pe = false ∧ t.cfg = .unconfigured) ∨
      (∃ w i, s.turns.head? = some (.host (.writeCmd w)) ∧ decode w = .ok i ∧ (i = .init ∨ ∃ pl, txnPayload s i = some pl) ∧
        t.pe = true ∧ t.cfg = .configured fixedCfg)) ∧
    (t.base ≠ s.base →
      (s.turns.head? = some .powerOn ∧ t.base = none) ∨
      (∃ b, s.turns.head? = some (.host (.writeBase b)) ∧ t.base = some b)) ∧
    (∀ a, t.readByte a ≠ s.readByte a → ∃ b, s.turns.head? = some (.host (.writeMem a b))) ∧
    (∀ w, s.turns.head? = some (.host (.writeCmd w)) → decode w = .ok .init → s.phase ≠ .fault → s.busy = false →
      t.ready = true ∧ t.clkEn = true ∧ t.pinsCfg = true ∧ t.pe = true ∧ t.cfg = .configured fixedCfg) ∧
    (∀ w i pl, s.turns.head? = some (.host (.writeCmd w)) → decode w = .ok i → txnPayload s i = some pl →
      s.phase ≠ .fault → s.phase ≠ .off → s.busy = false → t.pe = true ∧ t.cfg = .configured fixedCfg)

/-- Host memory: a byte the host has written reads as written, and every other address reads as before (20_memory.md R45, R47). That
a written byte is readable is the model's own choice (notes/assumptions/5.md). -/
def Obligations.HostMemoryReadAfterWrite : Prop :=
  ∀ (s : State) a b, a < 2 ^ s.par.addrWidth →
    ∃ t, hostTurn (.writeMem a b) s = .next t ∧ t.readByte a = some b ∧ (∀ x, x ≠ a → t.readByte x = s.readByte x) ∧
      t = { s with hmem := t.hmem }

/-- TRACE (10_state.md R29) is append-only between power-on resets, and empty at reset. -/
def Obligations.TraceIsAppendOnly : Prop :=
  State.reset.trace = [] ∧
  ∀ s t : State, step s = .next t → s.turns.head? ≠ some .powerOn → ∃ more, t.trace = s.trace ++ more ∧ more.length ≤ 1

/-- R33: the values power-on reset leaves, in the reset state and after power-on reset from any state. -/
def Obligations.PowerOnResetValues : Prop :=
  ∀ s t : State, (t = State.reset ∨ ∃ ts, s.turns = .powerOn :: ts ∧ step s = .next t) →
    t.phase = .off ∧ t.status = 0x00 ∧ t.img = none ∧ t.base = none ∧ t.clkEn = false ∧ t.pinsCfg = false ∧ t.pe = false ∧
    t.swrst = false ∧ t.cfg = .unconfigured ∧ t.evSB = false ∧ t.evAddr = false ∧ t.evBtf = false ∧ t.polls = 0 ∧
    t.pl = [] ∧ t.idx = 0 ∧ t.trace = []

/-! ## Invariants -/

/-- The reset state meets the invariant, STATUS agrees with PHASE in it, and its TRACE has the right shape. That WAIT_POLICY is
SpinForever there is read from the spec by inference (notes/assumptions/3.md); the other parameters are the model's own opaque
constants (notes/assumptions/2.md), and that reset memory lists nothing is the model's own choice (notes/assumptions/4.md). -/
def Obligations.ResetMeetsInvariants : Prop :=
  State.reset.Inv ∧ State.reset.statusAgrees ∧ State.reset.TraceShape

/-- Every step keeps the invariant of the state. Some of its clauses are about the model's own choices: POLLS has a field that is 0
under SpinForever, where the spec has no POLLS (notes/assumptions/20.md); host memory is a list in canonical form
(notes/assumptions/4.md), inside the address space, and BASE is a number below 2^ADDR_WIDTH (notes/assumptions/6.md). -/
def Obligations.StepKeepsInvariant : Prop :=
  ∀ s t : State, s.Inv → step s = .next t → t.Inv

/-- STATUS.FAULTED = 1 exactly when PHASE = FAULT and STATUS.BUSY = 1 exactly in the wait states; every step keeps it (10_state.md
R34, which the spec marks "[derived: from rules R22, R24 and 40_bus_transport.md rule R89, 60_exceptions.md rule R162]"). -/
def Obligations.StatusAgreesWithPhase : Prop :=
  State.reset.statusAgrees ∧ ∀ s t : State, s.statusAgrees → step s = .next t → t.statusAgrees

/-- Every step keeps the shape of TRACE: a row of frames `S A0 p0 ... P`, then the frame in progress (30_encoding.md R70,
40_bus_transport.md R88, R91). Its premise `Inv` has the model's own clauses named at StepKeepsInvariant (notes/assumptions/4.md,
6.md, 20.md). -/
def Obligations.StepKeepsTraceShape : Prop :=
  ∀ s t : State, s.Inv → s.TraceShape → step s = .next t → t.TraceShape
end

