-- ==== Sys2Proof/Laws/Config.lean ====
section
/-! SUPPORT. The unknown parameters of the reset state meet what the spec asks of every block. -/

namespace Sys2Proof

/-- The two parts of a split digit-0 byte OR to the whole (42_segment_encoder.md R124). -/
theorem splitSec_or_splitPrim (w a b : Byte) : Config.splitSec w a ||| Config.splitPrim w a b = w := by
  apply BitVec.eq_of_getElem_eq
  intro i hi
  simp only [Config.splitSec, Config.splitPrim, BitVec.getElem_or, BitVec.getElem_and, BitVec.getElem_not]
  cases w[i] <;> cases a[i] <;> cases b[i] <;> rfl

/-- Every pair of masks that ORs to the whole is such a split: the reset tables leave nothing out. -/
theorem split_surjective (w x y : Byte) (h : x ||| y = w) :
    Config.splitSec w x = x ∧ Config.splitPrim w x y = y := by
  subst h
  constructor <;> apply BitVec.eq_of_getElem_eq <;> intro i hi <;>
    simp only [Config.splitSec, Config.splitPrim, BitVec.getElem_or, BitVec.getElem_and, BitVec.getElem_not] <;>
    cases x[i] <;> cases y[i] <;> rfl

/-- The tables at reset meet the digit-0 constraint (42_segment_encoder.md R124). -/
theorem params_digit0 : Config.params.digit0 = true := by
  simp [Params.digit0, Config.params, Config.table, splitSec_or_splitPrim]

/-- ADDR_WIDTH at reset is positive and the wait policy is well-formed (00_scope.md R7). -/
theorem params_wellFormed : Config.params.wellFormed = true := by
  simp [Params.wellFormed, Config.params, WaitPolicy.wellFormed]

end Sys2Proof
end

