-- ==== Sys2Proof/Laws/Decode.lean ====
section
/-! SUPPORT. What each field and each mask of the opcode map sees of an encoded word (30_encoding.md R60 to R62). -/

namespace Sys2Proof

/-! Fields of a word made of parts. -/

theorem valueField_or (x y : CmdWord) : valueField (x ||| y) = valueField x ||| valueField y := by
  apply BitVec.eq_of_getElem_eq; intro i hi; simp [valueField]

theorem originField_or (x y : CmdWord) : originField (x ||| y) = originField x ||| originField y := by
  apply BitVec.eq_of_getElem_eq; intro i hi; simp [originField]

theorem countField_or (x y : CmdWord) : countField (x ||| y) = countField x ||| countField y := by
  apply BitVec.eq_of_getElem_eq; intro i hi; simp [countField]

theorem fField_or (x y : CmdWord) : fField (x ||| y) = (fField x || fField y) := by simp [fField]

/-! Fields of each part. -/

theorem valueField_shift (v : Value) : valueField (v.setWidth 32 <<< 16) = v := by
  apply BitVec.eq_of_getElem_eq; intro i hi; simp [valueField, show 16 + i < 32 by omega, BitVec.getLsbD_eq_getElem hi]

theorem fField_shift (v : Value) : fField (v.setWidth 32 <<< 16) = false := by simp [fField]

theorem valueField_fBit (f : Bool) : valueField (fBit f) = 0 := by cases f <;> rfl

theorem fField_fBit (f : Bool) : fField (fBit f) = f := by cases f <;> rfl

theorem countField_shift16 (c : Byte) : countField (c.setWidth 32 <<< 16) = c := by
  apply BitVec.eq_of_getElem_eq; intro i hi; simp [countField, show 16 + i < 32 by omega, BitVec.getLsbD_eq_getElem hi]

theorem countField_shift8 (o : Byte) : countField (o.setWidth 32 <<< 8) = 0 := by
  apply BitVec.eq_of_getElem_eq
  intro i hi
  have h : o.getLsbD (16 + i - 8) = false := BitVec.getLsbD_of_ge _ _ (by omega)
  simp [countField, h]

theorem originField_shift16 (c : Byte) : originField (c.setWidth 32 <<< 16) = 0 := by
  apply BitVec.eq_of_getElem_eq; intro i hi; simp [originField]; intro; omega

theorem originField_shift8 (o : Byte) : originField (o.setWidth 32 <<< 8) = o := by
  apply BitVec.eq_of_getElem_eq
  intro i hi
  simp [originField, show 8 + i < 32 by omega, BitVec.getLsbD_eq_getElem hi]

/-! Masks of each part. -/

/-- A value in the top half is outside every mask that lies in the bottom half. -/
theorem shift16_and (v : Value) (m : CmdWord) (hm : m.extractLsb' 16 16 = 0) : v.setWidth 32 <<< 16 &&& m = 0 := by
  apply BitVec.eq_of_getElem_eq
  intro i hi
  by_cases h : i < 16
  · simp [h]
  · have hz := congrArg (fun x => x.getLsbD (i - 16)) hm
    have e : 16 + (i - 16) = i := by omega
    simp [e] at hz
    simp [h, ← BitVec.getLsbD_eq_getElem, hz (by omega)]

theorem fBit_and (f : Bool) : fBit f &&& 0x0000FFEF = 0 := by cases f <;> rfl

theorem count_and (c : Byte) : c.setWidth 32 <<< 16 &&& 0xFF0000FF = 0 := by
  apply BitVec.eq_of_getElem_eq; intro i hi; interval_cases i <;> simp

theorem origin_and (o : Byte) : o.setWidth 32 <<< 8 &&& 0xFF0000FF = 0 := by
  apply BitVec.eq_of_getElem_eq; intro i hi; interval_cases i <;> simp

/-! The encoded words under their own masks. -/

theorem encode_wram_and (o c : Byte) : encode (.wram o c) &&& 0xFF0000FF = 0x4 := by
  simp only [encode, BitVec.and_or_distrib_right, count_and, origin_and]; rfl

theorem encode_encode_and (v : Value) (f : Bool) : encode (.encode v f) &&& 0x0000FFEF = 0x5 := by
  simp only [encode, BitVec.and_or_distrib_right, shift16_and v 0x0000FFEF rfl, fBit_and]; rfl

theorem encode_draw_and (v : Value) (f : Bool) : encode (.draw v f) &&& 0x0000FFEF = 0x6 := by
  simp only [encode, BitVec.and_or_distrib_right, shift16_and v 0x0000FFEF rfl, fBit_and]; rfl

/-- Every mask takes in OP, and OP tells the rows apart: a word hits at most one row (30_encoding.md R62). -/
theorem hits_opField (x : Opcode) (w : CmdWord) (h : x.hits w = true) : opField w = opField x.pattern := by
  have hm : x.mask &&& 0xF = 0xF := by cases x <;> rfl
  have hw : w &&& x.mask = x.pattern := by simpa [Opcode.hits] using h
  have hl : w &&& 0xF = x.pattern &&& 0xF := by rw [← hw, BitVec.and_assoc, hm]
  have hf : ∀ y : CmdWord, opField y = opField (y &&& 0xF) := by
    intro y
    apply BitVec.eq_of_getElem_eq
    intro i hi
    interval_cases i <;> simp [opField]
  rw [hf w, hl, ← hf]

theorem hits_unique (x y : Opcode) (w : CmdWord) (hx : x.hits w = true) (hy : y.hits w = true) : x = y := by
  have h := (hits_opField x w hx).symm.trans (hits_opField y w hy)
  revert h
  cases x <;> cases y <;> decide

/-- A word that hits a row decodes as that row (30_encoding.md R62). -/
theorem decode_of_hits (x : Opcode) (w : CmdWord) (h : x.hits w = true) : decode w = .ok (x.assemble w) := by
  have hf : Opcode.rows.find? (fun y => y.hits w) = some x := by
    cases hr : Opcode.rows.find? (fun y => y.hits w) with
    | none =>
      have := List.find?_eq_none.mp hr x (by cases x <;> simp [Opcode.rows])
      exact absurd h this
    | some y => rw [hits_unique y x w (List.find?_some (p := fun y : Opcode => y.hits w) hr) h]
  simp [decode, hf]

/-- What the decoder answers: the row the word hits, or the reason it hits none. -/
theorem decode_cases (w : CmdWord) :
    (∃ x : Opcode, x.hits w = true ∧ decode w = .ok (x.assemble w)) ∨
    ((∀ x : Opcode, x.hits w = false) ∧ decode w = .error (illegalReason w)) := by
  cases hr : Opcode.rows.find? (fun y => y.hits w) with
  | some x => exact .inl ⟨x, List.find?_some (p := fun y : Opcode => y.hits w) hr, by simp [decode, hr]⟩
  | none =>
    refine .inr ⟨fun x => ?_, by simp [decode, hr]⟩
    have := List.find?_eq_none.mp hr x (by cases x <;> simp [Opcode.rows])
    simpa using this

end Sys2Proof
end

