-- ==== Sys2Proof/Laws/Memory.lean ====
section
/-! SUPPORT. Every memory operation keeps the canonical form of host memory (20_memory.md R45). The one operation that changes it is the
host's write of a byte. -/

namespace Sys2Proof.Machine

/-- A write adds no address but its own. -/
theorem memory_write_mem (m : Memory) (a : Nat) (b : Byte) (c : Host.Cell) (h : c ∈ m.write a b) : c = (a, b) ∨ c ∈ m := by
  induction m with
  | nil => simpa [Memory.write] using h
  | cons d rest ih =>
    unfold Memory.write at h
    split at h
    · simpa using h
    · split at h
      · rcases List.mem_cons.mp h with h | h
        · exact .inl h
        · exact .inr (List.mem_cons_of_mem _ h)
      · rcases List.mem_cons.mp h with h | h
        · exact .inr (h ▸ List.mem_cons_self)
        · exact (ih h).imp id (List.mem_cons_of_mem _)

/-- A write keeps the addresses strictly rising. -/
theorem memory_write_wf (m : Memory) (a : Nat) (b : Byte) (h : m.wf) : (m.write a b).wf := by
  induction m with
  | nil => simp [Memory.write, Memory.wf]
  | cons d rest ih =>
    obtain ⟨hd, hr⟩ := List.pairwise_cons.mp h
    unfold Memory.write
    split
    · rename_i hlt
      refine List.pairwise_cons.mpr ⟨fun c hc => ?_, h⟩
      rcases List.mem_cons.mp hc with rfl | hc
      · exact hlt
      · exact Nat.lt_trans hlt (hd c hc)
    · split
      · rename_i heq
        exact List.pairwise_cons.mpr ⟨fun c hc => heq ▸ hd c hc, hr⟩
      · rename_i hge hne
        refine List.pairwise_cons.mpr ⟨fun c hc => ?_, ih hr⟩
        rcases memory_write_mem rest a b c hc with rfl | hc
        · show d.1 < a
          omega
        · exact hd c hc

/-- The host's write, the one step that changes host memory, keeps the canonical form. -/
theorem hostWriteMem_wf (a : Nat) (b : Byte) (s t : State) (h : s.hmem.wf) (ht : hostWriteMem a b s = .next t) : t.hmem.wf := by
  unfold hostWriteMem at ht
  split at ht <;> cases ht
  exact memory_write_wf _ a b h

/-- Power-on reset leaves host memory as it is. -/
theorem powerOnReset_wf (s : State) (h : s.hmem.wf) : (powerOnReset s).hmem.wf := h

/-- Host memory of the reset state is in its canonical form. -/
theorem reset_mem_wf : State.reset.hmem.wf := by decide

end Sys2Proof.Machine
end

