-- ==== Sys2Proof/Laws/State.lean ====
section
/-! SUPPORT. One lemma per field and per update of the state: what each operation leaves in each field. -/

namespace Sys2Proof.Machine

/-! ### raise -/

@[simp] theorem raise_base (c : FaultCode) (s : State) : (raise c s).base = s.base := rfl
@[simp] theorem raise_busy (c : FaultCode) (s : State) : (raise c s).busy = false := rfl
@[simp] theorem raise_ready (c : FaultCode) (s : State) : (raise c s).ready = s.ready := rfl
@[simp] theorem raise_timeout (c : FaultCode) (s : State) : (raise c s).timeout = s.timeout := rfl
@[simp] theorem raise_faulted (c : FaultCode) (s : State) : (raise c s).faulted = true := rfl
@[simp] theorem raise_fcode (c : FaultCode) (s : State) : (raise c s).fcode = c := rfl
@[simp] theorem raise_img (c : FaultCode) (s : State) : (raise c s).img = s.img := rfl
@[simp] theorem raise_phase (c : FaultCode) (s : State) : (raise c s).phase = .fault := rfl
@[simp] theorem raise_pl (c : FaultCode) (s : State) : (raise c s).pl = s.pl := rfl
@[simp] theorem raise_idx (c : FaultCode) (s : State) : (raise c s).idx = s.idx := rfl
@[simp] theorem raise_clkEn (c : FaultCode) (s : State) : (raise c s).clkEn = s.clkEn := rfl
@[simp] theorem raise_pinsCfg (c : FaultCode) (s : State) : (raise c s).pinsCfg = s.pinsCfg := rfl
@[simp] theorem raise_pe (c : FaultCode) (s : State) : (raise c s).pe = s.pe := rfl
@[simp] theorem raise_swrst (c : FaultCode) (s : State) : (raise c s).swrst = s.swrst := rfl
@[simp] theorem raise_cfg (c : FaultCode) (s : State) : (raise c s).cfg = s.cfg := rfl
@[simp] theorem raise_evSB (c : FaultCode) (s : State) : (raise c s).evSB = s.evSB := rfl
@[simp] theorem raise_evAddr (c : FaultCode) (s : State) : (raise c s).evAddr = s.evAddr := rfl
@[simp] theorem raise_evBtf (c : FaultCode) (s : State) : (raise c s).evBtf = s.evBtf := rfl
@[simp] theorem raise_polls (c : FaultCode) (s : State) : (raise c s).polls = s.polls := rfl
@[simp] theorem raise_trace (c : FaultCode) (s : State) : (raise c s).trace = s.trace := rfl
@[simp] theorem raise_hmem (c : FaultCode) (s : State) : (raise c s).hmem = s.hmem := rfl
@[simp] theorem raise_par (c : FaultCode) (s : State) : (raise c s).par = s.par := rfl
@[simp] theorem raise_turns (c : FaultCode) (s : State) : (raise c s).turns = s.turns := rfl
@[simp] theorem raise_lastRead (c : FaultCode) (s : State) : (raise c s).lastRead = s.lastRead := rfl

/-! ### wire -/

@[simp] theorem wire_base (x : WireSym) (s : State) : (wire x s).base = s.base := rfl
@[simp] theorem wire_busy (x : WireSym) (s : State) : (wire x s).busy = s.busy := rfl
@[simp] theorem wire_ready (x : WireSym) (s : State) : (wire x s).ready = s.ready := rfl
@[simp] theorem wire_timeout (x : WireSym) (s : State) : (wire x s).timeout = s.timeout := rfl
@[simp] theorem wire_faulted (x : WireSym) (s : State) : (wire x s).faulted = s.faulted := rfl
@[simp] theorem wire_fcode (x : WireSym) (s : State) : (wire x s).fcode = s.fcode := rfl
@[simp] theorem wire_img (x : WireSym) (s : State) : (wire x s).img = s.img := rfl
@[simp] theorem wire_phase (x : WireSym) (s : State) : (wire x s).phase = s.phase := rfl
@[simp] theorem wire_pl (x : WireSym) (s : State) : (wire x s).pl = s.pl := rfl
@[simp] theorem wire_idx (x : WireSym) (s : State) : (wire x s).idx = s.idx := rfl
@[simp] theorem wire_clkEn (x : WireSym) (s : State) : (wire x s).clkEn = s.clkEn := rfl
@[simp] theorem wire_pinsCfg (x : WireSym) (s : State) : (wire x s).pinsCfg = s.pinsCfg := rfl
@[simp] theorem wire_pe (x : WireSym) (s : State) : (wire x s).pe = s.pe := rfl
@[simp] theorem wire_swrst (x : WireSym) (s : State) : (wire x s).swrst = s.swrst := rfl
@[simp] theorem wire_cfg (x : WireSym) (s : State) : (wire x s).cfg = s.cfg := rfl
@[simp] theorem wire_evSB (x : WireSym) (s : State) : (wire x s).evSB = s.evSB := rfl
@[simp] theorem wire_evAddr (x : WireSym) (s : State) : (wire x s).evAddr = s.evAddr := rfl
@[simp] theorem wire_evBtf (x : WireSym) (s : State) : (wire x s).evBtf = s.evBtf := rfl
@[simp] theorem wire_polls (x : WireSym) (s : State) : (wire x s).polls = s.polls := rfl
@[simp] theorem wire_trace (x : WireSym) (s : State) : (wire x s).trace = s.trace ++ [x] := rfl
@[simp] theorem wire_hmem (x : WireSym) (s : State) : (wire x s).hmem = s.hmem := rfl
@[simp] theorem wire_par (x : WireSym) (s : State) : (wire x s).par = s.par := rfl
@[simp] theorem wire_turns (x : WireSym) (s : State) : (wire x s).turns = s.turns := rfl
@[simp] theorem wire_lastRead (x : WireSym) (s : State) : (wire x s).lastRead = s.lastRead := rfl

/-! ### busReset -/

@[simp] theorem busReset_base (s : State) : (busReset s).base = s.base := rfl
@[simp] theorem busReset_busy (s : State) : (busReset s).busy = s.busy := rfl
@[simp] theorem busReset_ready (s : State) : (busReset s).ready = s.ready := rfl
@[simp] theorem busReset_timeout (s : State) : (busReset s).timeout = s.timeout := rfl
@[simp] theorem busReset_faulted (s : State) : (busReset s).faulted = s.faulted := rfl
@[simp] theorem busReset_fcode (s : State) : (busReset s).fcode = s.fcode := rfl
@[simp] theorem busReset_img (s : State) : (busReset s).img = s.img := rfl
@[simp] theorem busReset_phase (s : State) : (busReset s).phase = s.phase := rfl
@[simp] theorem busReset_pl (s : State) : (busReset s).pl = s.pl := rfl
@[simp] theorem busReset_idx (s : State) : (busReset s).idx = s.idx := rfl
@[simp] theorem busReset_clkEn (s : State) : (busReset s).clkEn = s.clkEn := rfl
@[simp] theorem busReset_pinsCfg (s : State) : (busReset s).pinsCfg = s.pinsCfg := rfl
@[simp] theorem busReset_pe (s : State) : (busReset s).pe = true := rfl
@[simp] theorem busReset_swrst (s : State) : (busReset s).swrst = false := rfl
@[simp] theorem busReset_cfg (s : State) : (busReset s).cfg = .configured fixedCfg := rfl
@[simp] theorem busReset_evSB (s : State) : (busReset s).evSB = false := rfl
@[simp] theorem busReset_evAddr (s : State) : (busReset s).evAddr = false := rfl
@[simp] theorem busReset_evBtf (s : State) : (busReset s).evBtf = false := rfl
@[simp] theorem busReset_polls (s : State) : (busReset s).polls = 0 := rfl
@[simp] theorem busReset_trace (s : State) : (busReset s).trace = s.trace := rfl
@[simp] theorem busReset_hmem (s : State) : (busReset s).hmem = s.hmem := rfl
@[simp] theorem busReset_par (s : State) : (busReset s).par = s.par := rfl
@[simp] theorem busReset_turns (s : State) : (busReset s).turns = s.turns := rfl
@[simp] theorem busReset_lastRead (s : State) : (busReset s).lastRead = s.lastRead := rfl

/-! ### startCondition -/

@[simp] theorem startCondition_base (s : State) : (startCondition s).base = s.base := rfl
@[simp] theorem startCondition_busy (s : State) : (startCondition s).busy = s.busy := rfl
@[simp] theorem startCondition_ready (s : State) : (startCondition s).ready = s.ready := rfl
@[simp] theorem startCondition_timeout (s : State) : (startCondition s).timeout = s.timeout := rfl
@[simp] theorem startCondition_faulted (s : State) : (startCondition s).faulted = s.faulted := rfl
@[simp] theorem startCondition_fcode (s : State) : (startCondition s).fcode = s.fcode := rfl
@[simp] theorem startCondition_img (s : State) : (startCondition s).img = s.img := rfl
@[simp] theorem startCondition_phase (s : State) : (startCondition s).phase = .wSB := rfl
@[simp] theorem startCondition_pl (s : State) : (startCondition s).pl = s.pl := rfl
@[simp] theorem startCondition_idx (s : State) : (startCondition s).idx = s.idx := rfl
@[simp] theorem startCondition_clkEn (s : State) : (startCondition s).clkEn = s.clkEn := rfl
@[simp] theorem startCondition_pinsCfg (s : State) : (startCondition s).pinsCfg = s.pinsCfg := rfl
@[simp] theorem startCondition_pe (s : State) : (startCondition s).pe = s.pe := rfl
@[simp] theorem startCondition_swrst (s : State) : (startCondition s).swrst = s.swrst := rfl
@[simp] theorem startCondition_cfg (s : State) : (startCondition s).cfg = s.cfg := rfl
@[simp] theorem startCondition_evSB (s : State) : (startCondition s).evSB = s.evSB := rfl
@[simp] theorem startCondition_evAddr (s : State) : (startCondition s).evAddr = s.evAddr := rfl
@[simp] theorem startCondition_evBtf (s : State) : (startCondition s).evBtf = s.evBtf := rfl
@[simp] theorem startCondition_polls (s : State) : (startCondition s).polls = s.polls := rfl
@[simp] theorem startCondition_trace (s : State) : (startCondition s).trace = s.trace ++ [.start] := rfl
@[simp] theorem startCondition_hmem (s : State) : (startCondition s).hmem = s.hmem := rfl
@[simp] theorem startCondition_par (s : State) : (startCondition s).par = s.par := rfl
@[simp] theorem startCondition_turns (s : State) : (startCondition s).turns = s.turns := rfl
@[simp] theorem startCondition_lastRead (s : State) : (startCondition s).lastRead = s.lastRead := rfl

/-! ### sendAddress -/

@[simp] theorem sendAddress_base (d : BitVec 1) (s : State) : (sendAddress d s).base = s.base := rfl
@[simp] theorem sendAddress_busy (d : BitVec 1) (s : State) : (sendAddress d s).busy = s.busy := rfl
@[simp] theorem sendAddress_ready (d : BitVec 1) (s : State) : (sendAddress d s).ready = s.ready := rfl
@[simp] theorem sendAddress_timeout (d : BitVec 1) (s : State) : (sendAddress d s).timeout = s.timeout := rfl
@[simp] theorem sendAddress_faulted (d : BitVec 1) (s : State) : (sendAddress d s).faulted = s.faulted := rfl
@[simp] theorem sendAddress_fcode (d : BitVec 1) (s : State) : (sendAddress d s).fcode = s.fcode := rfl
@[simp] theorem sendAddress_img (d : BitVec 1) (s : State) : (sendAddress d s).img = s.img := rfl
@[simp] theorem sendAddress_phase (d : BitVec 1) (s : State) : (sendAddress d s).phase = .wAddr := rfl
@[simp] theorem sendAddress_pl (d : BitVec 1) (s : State) : (sendAddress d s).pl = s.pl := rfl
@[simp] theorem sendAddress_idx (d : BitVec 1) (s : State) : (sendAddress d s).idx = s.idx := rfl
@[simp] theorem sendAddress_clkEn (d : BitVec 1) (s : State) : (sendAddress d s).clkEn = s.clkEn := rfl
@[simp] theorem sendAddress_pinsCfg (d : BitVec 1) (s : State) : (sendAddress d s).pinsCfg = s.pinsCfg := rfl
@[simp] theorem sendAddress_pe (d : BitVec 1) (s : State) : (sendAddress d s).pe = s.pe := rfl
@[simp] theorem sendAddress_swrst (d : BitVec 1) (s : State) : (sendAddress d s).swrst = s.swrst := rfl
@[simp] theorem sendAddress_cfg (d : BitVec 1) (s : State) : (sendAddress d s).cfg = s.cfg := rfl
@[simp] theorem sendAddress_evSB (d : BitVec 1) (s : State) : (sendAddress d s).evSB = s.evSB := rfl
@[simp] theorem sendAddress_evAddr (d : BitVec 1) (s : State) : (sendAddress d s).evAddr = s.evAddr := rfl
@[simp] theorem sendAddress_evBtf (d : BitVec 1) (s : State) : (sendAddress d s).evBtf = s.evBtf := rfl
@[simp] theorem sendAddress_polls (d : BitVec 1) (s : State) : (sendAddress d s).polls = s.polls := rfl
@[simp] theorem sendAddress_trace (d : BitVec 1) (s : State) : (sendAddress d s).trace = s.trace ++ [.byte (addrByte s.par d)] := rfl
@[simp] theorem sendAddress_hmem (d : BitVec 1) (s : State) : (sendAddress d s).hmem = s.hmem := rfl
@[simp] theorem sendAddress_par (d : BitVec 1) (s : State) : (sendAddress d s).par = s.par := rfl
@[simp] theorem sendAddress_turns (d : BitVec 1) (s : State) : (sendAddress d s).turns = s.turns := rfl
@[simp] theorem sendAddress_lastRead (d : BitVec 1) (s : State) : (sendAddress d s).lastRead = s.lastRead := rfl

/-! ### sendByte -/

@[simp] theorem sendByte_base (x : Byte) (s : State) : (sendByte x s).base = s.base := rfl
@[simp] theorem sendByte_busy (x : Byte) (s : State) : (sendByte x s).busy = s.busy := rfl
@[simp] theorem sendByte_ready (x : Byte) (s : State) : (sendByte x s).ready = s.ready := rfl
@[simp] theorem sendByte_timeout (x : Byte) (s : State) : (sendByte x s).timeout = s.timeout := rfl
@[simp] theorem sendByte_faulted (x : Byte) (s : State) : (sendByte x s).faulted = s.faulted := rfl
@[simp] theorem sendByte_fcode (x : Byte) (s : State) : (sendByte x s).fcode = s.fcode := rfl
@[simp] theorem sendByte_img (x : Byte) (s : State) : (sendByte x s).img = s.img := rfl
@[simp] theorem sendByte_phase (x : Byte) (s : State) : (sendByte x s).phase = .wBtf := rfl
@[simp] theorem sendByte_pl (x : Byte) (s : State) : (sendByte x s).pl = s.pl := rfl
@[simp] theorem sendByte_idx (x : Byte) (s : State) : (sendByte x s).idx = s.idx := rfl
@[simp] theorem sendByte_clkEn (x : Byte) (s : State) : (sendByte x s).clkEn = s.clkEn := rfl
@[simp] theorem sendByte_pinsCfg (x : Byte) (s : State) : (sendByte x s).pinsCfg = s.pinsCfg := rfl
@[simp] theorem sendByte_pe (x : Byte) (s : State) : (sendByte x s).pe = s.pe := rfl
@[simp] theorem sendByte_swrst (x : Byte) (s : State) : (sendByte x s).swrst = s.swrst := rfl
@[simp] theorem sendByte_cfg (x : Byte) (s : State) : (sendByte x s).cfg = s.cfg := rfl
@[simp] theorem sendByte_evSB (x : Byte) (s : State) : (sendByte x s).evSB = s.evSB := rfl
@[simp] theorem sendByte_evAddr (x : Byte) (s : State) : (sendByte x s).evAddr = s.evAddr := rfl
@[simp] theorem sendByte_evBtf (x : Byte) (s : State) : (sendByte x s).evBtf = s.evBtf := rfl
@[simp] theorem sendByte_polls (x : Byte) (s : State) : (sendByte x s).polls = s.polls := rfl
@[simp] theorem sendByte_trace (x : Byte) (s : State) : (sendByte x s).trace = s.trace ++ [.byte x] := rfl
@[simp] theorem sendByte_hmem (x : Byte) (s : State) : (sendByte x s).hmem = s.hmem := rfl
@[simp] theorem sendByte_par (x : Byte) (s : State) : (sendByte x s).par = s.par := rfl
@[simp] theorem sendByte_turns (x : Byte) (s : State) : (sendByte x s).turns = s.turns := rfl
@[simp] theorem sendByte_lastRead (x : Byte) (s : State) : (sendByte x s).lastRead = s.lastRead := rfl

/-! ### stopCondition -/

@[simp] theorem stopCondition_base (s : State) : (stopCondition s).base = s.base := rfl
@[simp] theorem stopCondition_busy (s : State) : (stopCondition s).busy = s.busy := rfl
@[simp] theorem stopCondition_ready (s : State) : (stopCondition s).ready = s.ready := rfl
@[simp] theorem stopCondition_timeout (s : State) : (stopCondition s).timeout = s.timeout := rfl
@[simp] theorem stopCondition_faulted (s : State) : (stopCondition s).faulted = s.faulted := rfl
@[simp] theorem stopCondition_fcode (s : State) : (stopCondition s).fcode = s.fcode := rfl
@[simp] theorem stopCondition_img (s : State) : (stopCondition s).img = s.img := rfl
@[simp] theorem stopCondition_phase (s : State) : (stopCondition s).phase = s.phase := rfl
@[simp] theorem stopCondition_pl (s : State) : (stopCondition s).pl = s.pl := rfl
@[simp] theorem stopCondition_idx (s : State) : (stopCondition s).idx = s.idx := rfl
@[simp] theorem stopCondition_clkEn (s : State) : (stopCondition s).clkEn = s.clkEn := rfl
@[simp] theorem stopCondition_pinsCfg (s : State) : (stopCondition s).pinsCfg = s.pinsCfg := rfl
@[simp] theorem stopCondition_pe (s : State) : (stopCondition s).pe = s.pe := rfl
@[simp] theorem stopCondition_swrst (s : State) : (stopCondition s).swrst = s.swrst := rfl
@[simp] theorem stopCondition_cfg (s : State) : (stopCondition s).cfg = s.cfg := rfl
@[simp] theorem stopCondition_evSB (s : State) : (stopCondition s).evSB = s.evSB := rfl
@[simp] theorem stopCondition_evAddr (s : State) : (stopCondition s).evAddr = s.evAddr := rfl
@[simp] theorem stopCondition_evBtf (s : State) : (stopCondition s).evBtf = s.evBtf := rfl
@[simp] theorem stopCondition_polls (s : State) : (stopCondition s).polls = s.polls := rfl
@[simp] theorem stopCondition_trace (s : State) : (stopCondition s).trace = s.trace ++ [.stop] := rfl
@[simp] theorem stopCondition_hmem (s : State) : (stopCondition s).hmem = s.hmem := rfl
@[simp] theorem stopCondition_par (s : State) : (stopCondition s).par = s.par := rfl
@[simp] theorem stopCondition_turns (s : State) : (stopCondition s).turns = s.turns := rfl
@[simp] theorem stopCondition_lastRead (s : State) : (stopCondition s).lastRead = s.lastRead := rfl

/-! ### complete -/

@[simp] theorem complete_base (s : State) : (complete s).base = s.base := rfl
@[simp] theorem complete_busy (s : State) : (complete s).busy = false := rfl
@[simp] theorem complete_ready (s : State) : (complete s).ready = s.ready := rfl
@[simp] theorem complete_timeout (s : State) : (complete s).timeout = s.timeout := rfl
@[simp] theorem complete_faulted (s : State) : (complete s).faulted = s.faulted := rfl
@[simp] theorem complete_fcode (s : State) : (complete s).fcode = s.fcode := rfl
@[simp] theorem complete_img (s : State) : (complete s).img = s.img := rfl
@[simp] theorem complete_phase (s : State) : (complete s).phase = .idle := rfl
@[simp] theorem complete_pl (s : State) : (complete s).pl = s.pl := rfl
@[simp] theorem complete_idx (s : State) : (complete s).idx = s.idx := rfl
@[simp] theorem complete_clkEn (s : State) : (complete s).clkEn = s.clkEn := rfl
@[simp] theorem complete_pinsCfg (s : State) : (complete s).pinsCfg = s.pinsCfg := rfl
@[simp] theorem complete_pe (s : State) : (complete s).pe = s.pe := rfl
@[simp] theorem complete_swrst (s : State) : (complete s).swrst = s.swrst := rfl
@[simp] theorem complete_cfg (s : State) : (complete s).cfg = s.cfg := rfl
@[simp] theorem complete_evSB (s : State) : (complete s).evSB = s.evSB := rfl
@[simp] theorem complete_evAddr (s : State) : (complete s).evAddr = s.evAddr := rfl
@[simp] theorem complete_evBtf (s : State) : (complete s).evBtf = s.evBtf := rfl
@[simp] theorem complete_polls (s : State) : (complete s).polls = s.polls := rfl
@[simp] theorem complete_trace (s : State) : (complete s).trace = s.trace := rfl
@[simp] theorem complete_hmem (s : State) : (complete s).hmem = s.hmem := rfl
@[simp] theorem complete_par (s : State) : (complete s).par = s.par := rfl
@[simp] theorem complete_turns (s : State) : (complete s).turns = s.turns := rfl
@[simp] theorem complete_lastRead (s : State) : (complete s).lastRead = s.lastRead := rfl

/-! ### consumeSB -/

@[simp] theorem consumeSB_base (s : State) : (consumeSB s).base = s.base := rfl
@[simp] theorem consumeSB_busy (s : State) : (consumeSB s).busy = s.busy := rfl
@[simp] theorem consumeSB_ready (s : State) : (consumeSB s).ready = s.ready := rfl
@[simp] theorem consumeSB_timeout (s : State) : (consumeSB s).timeout = s.timeout := rfl
@[simp] theorem consumeSB_faulted (s : State) : (consumeSB s).faulted = s.faulted := rfl
@[simp] theorem consumeSB_fcode (s : State) : (consumeSB s).fcode = s.fcode := rfl
@[simp] theorem consumeSB_img (s : State) : (consumeSB s).img = s.img := rfl
@[simp] theorem consumeSB_phase (s : State) : (consumeSB s).phase = s.phase := rfl
@[simp] theorem consumeSB_pl (s : State) : (consumeSB s).pl = s.pl := rfl
@[simp] theorem consumeSB_idx (s : State) : (consumeSB s).idx = s.idx := rfl
@[simp] theorem consumeSB_clkEn (s : State) : (consumeSB s).clkEn = s.clkEn := rfl
@[simp] theorem consumeSB_pinsCfg (s : State) : (consumeSB s).pinsCfg = s.pinsCfg := rfl
@[simp] theorem consumeSB_pe (s : State) : (consumeSB s).pe = s.pe := rfl
@[simp] theorem consumeSB_swrst (s : State) : (consumeSB s).swrst = s.swrst := rfl
@[simp] theorem consumeSB_cfg (s : State) : (consumeSB s).cfg = s.cfg := rfl
@[simp] theorem consumeSB_evSB (s : State) : (consumeSB s).evSB = false := rfl
@[simp] theorem consumeSB_evAddr (s : State) : (consumeSB s).evAddr = s.evAddr := rfl
@[simp] theorem consumeSB_evBtf (s : State) : (consumeSB s).evBtf = s.evBtf := rfl
@[simp] theorem consumeSB_polls (s : State) : (consumeSB s).polls = 0 := rfl
@[simp] theorem consumeSB_trace (s : State) : (consumeSB s).trace = s.trace := rfl
@[simp] theorem consumeSB_hmem (s : State) : (consumeSB s).hmem = s.hmem := rfl
@[simp] theorem consumeSB_par (s : State) : (consumeSB s).par = s.par := rfl
@[simp] theorem consumeSB_turns (s : State) : (consumeSB s).turns = s.turns := rfl
@[simp] theorem consumeSB_lastRead (s : State) : (consumeSB s).lastRead = s.lastRead := rfl

/-! ### consumeAddr -/

@[simp] theorem consumeAddr_base (s : State) : (consumeAddr s).base = s.base := rfl
@[simp] theorem consumeAddr_busy (s : State) : (consumeAddr s).busy = s.busy := rfl
@[simp] theorem consumeAddr_ready (s : State) : (consumeAddr s).ready = s.ready := rfl
@[simp] theorem consumeAddr_timeout (s : State) : (consumeAddr s).timeout = s.timeout := rfl
@[simp] theorem consumeAddr_faulted (s : State) : (consumeAddr s).faulted = s.faulted := rfl
@[simp] theorem consumeAddr_fcode (s : State) : (consumeAddr s).fcode = s.fcode := rfl
@[simp] theorem consumeAddr_img (s : State) : (consumeAddr s).img = s.img := rfl
@[simp] theorem consumeAddr_phase (s : State) : (consumeAddr s).phase = s.phase := rfl
@[simp] theorem consumeAddr_pl (s : State) : (consumeAddr s).pl = s.pl := rfl
@[simp] theorem consumeAddr_idx (s : State) : (consumeAddr s).idx = s.idx := rfl
@[simp] theorem consumeAddr_clkEn (s : State) : (consumeAddr s).clkEn = s.clkEn := rfl
@[simp] theorem consumeAddr_pinsCfg (s : State) : (consumeAddr s).pinsCfg = s.pinsCfg := rfl
@[simp] theorem consumeAddr_pe (s : State) : (consumeAddr s).pe = s.pe := rfl
@[simp] theorem consumeAddr_swrst (s : State) : (consumeAddr s).swrst = s.swrst := rfl
@[simp] theorem consumeAddr_cfg (s : State) : (consumeAddr s).cfg = s.cfg := rfl
@[simp] theorem consumeAddr_evSB (s : State) : (consumeAddr s).evSB = s.evSB := rfl
@[simp] theorem consumeAddr_evAddr (s : State) : (consumeAddr s).evAddr = false := rfl
@[simp] theorem consumeAddr_evBtf (s : State) : (consumeAddr s).evBtf = s.evBtf := rfl
@[simp] theorem consumeAddr_polls (s : State) : (consumeAddr s).polls = 0 := rfl
@[simp] theorem consumeAddr_trace (s : State) : (consumeAddr s).trace = s.trace := rfl
@[simp] theorem consumeAddr_hmem (s : State) : (consumeAddr s).hmem = s.hmem := rfl
@[simp] theorem consumeAddr_par (s : State) : (consumeAddr s).par = s.par := rfl
@[simp] theorem consumeAddr_turns (s : State) : (consumeAddr s).turns = s.turns := rfl
@[simp] theorem consumeAddr_lastRead (s : State) : (consumeAddr s).lastRead = s.lastRead := rfl

/-! ### consumeBtf -/

@[simp] theorem consumeBtf_base (s : State) : (consumeBtf s).base = s.base := rfl
@[simp] theorem consumeBtf_busy (s : State) : (consumeBtf s).busy = s.busy := rfl
@[simp] theorem consumeBtf_ready (s : State) : (consumeBtf s).ready = s.ready := rfl
@[simp] theorem consumeBtf_timeout (s : State) : (consumeBtf s).timeout = s.timeout := rfl
@[simp] theorem consumeBtf_faulted (s : State) : (consumeBtf s).faulted = s.faulted := rfl
@[simp] theorem consumeBtf_fcode (s : State) : (consumeBtf s).fcode = s.fcode := rfl
@[simp] theorem consumeBtf_img (s : State) : (consumeBtf s).img = s.img := rfl
@[simp] theorem consumeBtf_phase (s : State) : (consumeBtf s).phase = s.phase := rfl
@[simp] theorem consumeBtf_pl (s : State) : (consumeBtf s).pl = s.pl := rfl
@[simp] theorem consumeBtf_idx (s : State) : (consumeBtf s).idx = s.idx := rfl
@[simp] theorem consumeBtf_clkEn (s : State) : (consumeBtf s).clkEn = s.clkEn := rfl
@[simp] theorem consumeBtf_pinsCfg (s : State) : (consumeBtf s).pinsCfg = s.pinsCfg := rfl
@[simp] theorem consumeBtf_pe (s : State) : (consumeBtf s).pe = s.pe := rfl
@[simp] theorem consumeBtf_swrst (s : State) : (consumeBtf s).swrst = s.swrst := rfl
@[simp] theorem consumeBtf_cfg (s : State) : (consumeBtf s).cfg = s.cfg := rfl
@[simp] theorem consumeBtf_evSB (s : State) : (consumeBtf s).evSB = s.evSB := rfl
@[simp] theorem consumeBtf_evAddr (s : State) : (consumeBtf s).evAddr = s.evAddr := rfl
@[simp] theorem consumeBtf_evBtf (s : State) : (consumeBtf s).evBtf = false := rfl
@[simp] theorem consumeBtf_polls (s : State) : (consumeBtf s).polls = 0 := rfl
@[simp] theorem consumeBtf_trace (s : State) : (consumeBtf s).trace = s.trace := rfl
@[simp] theorem consumeBtf_hmem (s : State) : (consumeBtf s).hmem = s.hmem := rfl
@[simp] theorem consumeBtf_par (s : State) : (consumeBtf s).par = s.par := rfl
@[simp] theorem consumeBtf_turns (s : State) : (consumeBtf s).turns = s.turns := rfl
@[simp] theorem consumeBtf_lastRead (s : State) : (consumeBtf s).lastRead = s.lastRead := rfl

/-! ### beginTxn -/

@[simp] theorem beginTxn_base (pl : List ByteSource) (s : State) : (beginTxn pl s).base = s.base := rfl
@[simp] theorem beginTxn_busy (pl : List ByteSource) (s : State) : (beginTxn pl s).busy = true := rfl
@[simp] theorem beginTxn_ready (pl : List ByteSource) (s : State) : (beginTxn pl s).ready = s.ready := rfl
@[simp] theorem beginTxn_timeout (pl : List ByteSource) (s : State) : (beginTxn pl s).timeout = false := rfl
@[simp] theorem beginTxn_faulted (pl : List ByteSource) (s : State) : (beginTxn pl s).faulted = s.faulted := rfl
@[simp] theorem beginTxn_fcode (pl : List ByteSource) (s : State) : (beginTxn pl s).fcode = s.fcode := rfl
@[simp] theorem beginTxn_img (pl : List ByteSource) (s : State) : (beginTxn pl s).img = s.img := rfl
@[simp] theorem beginTxn_phase (pl : List ByteSource) (s : State) : (beginTxn pl s).phase = .wSB := rfl
@[simp] theorem beginTxn_pl (pl : List ByteSource) (s : State) : (beginTxn pl s).pl = pl := rfl
@[simp] theorem beginTxn_idx (pl : List ByteSource) (s : State) : (beginTxn pl s).idx = 0 := rfl
@[simp] theorem beginTxn_clkEn (pl : List ByteSource) (s : State) : (beginTxn pl s).clkEn = s.clkEn := rfl
@[simp] theorem beginTxn_pinsCfg (pl : List ByteSource) (s : State) : (beginTxn pl s).pinsCfg = s.pinsCfg := rfl
@[simp] theorem beginTxn_pe (pl : List ByteSource) (s : State) : (beginTxn pl s).pe = true := rfl
@[simp] theorem beginTxn_swrst (pl : List ByteSource) (s : State) : (beginTxn pl s).swrst = false := rfl
@[simp] theorem beginTxn_cfg (pl : List ByteSource) (s : State) : (beginTxn pl s).cfg = .configured fixedCfg := rfl
@[simp] theorem beginTxn_evSB (pl : List ByteSource) (s : State) : (beginTxn pl s).evSB = false := rfl
@[simp] theorem beginTxn_evAddr (pl : List ByteSource) (s : State) : (beginTxn pl s).evAddr = false := rfl
@[simp] theorem beginTxn_evBtf (pl : List ByteSource) (s : State) : (beginTxn pl s).evBtf = false := rfl
@[simp] theorem beginTxn_polls (pl : List ByteSource) (s : State) : (beginTxn pl s).polls = 0 := rfl
@[simp] theorem beginTxn_trace (pl : List ByteSource) (s : State) : (beginTxn pl s).trace = s.trace ++ [.start] := rfl
@[simp] theorem beginTxn_hmem (pl : List ByteSource) (s : State) : (beginTxn pl s).hmem = s.hmem := rfl
@[simp] theorem beginTxn_par (pl : List ByteSource) (s : State) : (beginTxn pl s).par = s.par := rfl
@[simp] theorem beginTxn_turns (pl : List ByteSource) (s : State) : (beginTxn pl s).turns = s.turns := rfl
@[simp] theorem beginTxn_lastRead (pl : List ByteSource) (s : State) : (beginTxn pl s).lastRead = s.lastRead := rfl

/-! ### finishTxn -/

@[simp] theorem finishTxn_base (s : State) : (finishTxn s).base = s.base := rfl
@[simp] theorem finishTxn_busy (s : State) : (finishTxn s).busy = false := rfl
@[simp] theorem finishTxn_ready (s : State) : (finishTxn s).ready = s.ready := rfl
@[simp] theorem finishTxn_timeout (s : State) : (finishTxn s).timeout = s.timeout := rfl
@[simp] theorem finishTxn_faulted (s : State) : (finishTxn s).faulted = s.faulted := rfl
@[simp] theorem finishTxn_fcode (s : State) : (finishTxn s).fcode = s.fcode := rfl
@[simp] theorem finishTxn_img (s : State) : (finishTxn s).img = s.img := rfl
@[simp] theorem finishTxn_phase (s : State) : (finishTxn s).phase = .idle := rfl
@[simp] theorem finishTxn_pl (s : State) : (finishTxn s).pl = s.pl := rfl
@[simp] theorem finishTxn_idx (s : State) : (finishTxn s).idx = s.idx := rfl
@[simp] theorem finishTxn_clkEn (s : State) : (finishTxn s).clkEn = s.clkEn := rfl
@[simp] theorem finishTxn_pinsCfg (s : State) : (finishTxn s).pinsCfg = s.pinsCfg := rfl
@[simp] theorem finishTxn_pe (s : State) : (finishTxn s).pe = s.pe := rfl
@[simp] theorem finishTxn_swrst (s : State) : (finishTxn s).swrst = s.swrst := rfl
@[simp] theorem finishTxn_cfg (s : State) : (finishTxn s).cfg = s.cfg := rfl
@[simp] theorem finishTxn_evSB (s : State) : (finishTxn s).evSB = s.evSB := rfl
@[simp] theorem finishTxn_evAddr (s : State) : (finishTxn s).evAddr = s.evAddr := rfl
@[simp] theorem finishTxn_evBtf (s : State) : (finishTxn s).evBtf = s.evBtf := rfl
@[simp] theorem finishTxn_polls (s : State) : (finishTxn s).polls = s.polls := rfl
@[simp] theorem finishTxn_trace (s : State) : (finishTxn s).trace = s.trace ++ [.stop] := rfl
@[simp] theorem finishTxn_hmem (s : State) : (finishTxn s).hmem = s.hmem := rfl
@[simp] theorem finishTxn_par (s : State) : (finishTxn s).par = s.par := rfl
@[simp] theorem finishTxn_turns (s : State) : (finishTxn s).turns = s.turns := rfl
@[simp] theorem finishTxn_lastRead (s : State) : (finishTxn s).lastRead = s.lastRead := rfl

/-! ### timeOut -/

@[simp] theorem timeOut_base (s : State) : (timeOut s).base = s.base := rfl
@[simp] theorem timeOut_busy (s : State) : (timeOut s).busy = false := rfl
@[simp] theorem timeOut_ready (s : State) : (timeOut s).ready = s.ready := rfl
@[simp] theorem timeOut_timeout (s : State) : (timeOut s).timeout = true := rfl
@[simp] theorem timeOut_faulted (s : State) : (timeOut s).faulted = s.faulted := rfl
@[simp] theorem timeOut_fcode (s : State) : (timeOut s).fcode = s.fcode := rfl
@[simp] theorem timeOut_img (s : State) : (timeOut s).img = s.img := rfl
@[simp] theorem timeOut_phase (s : State) : (timeOut s).phase = .idle := rfl
@[simp] theorem timeOut_pl (s : State) : (timeOut s).pl = s.pl := rfl
@[simp] theorem timeOut_idx (s : State) : (timeOut s).idx = s.idx := rfl
@[simp] theorem timeOut_clkEn (s : State) : (timeOut s).clkEn = s.clkEn := rfl
@[simp] theorem timeOut_pinsCfg (s : State) : (timeOut s).pinsCfg = s.pinsCfg := rfl
@[simp] theorem timeOut_pe (s : State) : (timeOut s).pe = s.pe := rfl
@[simp] theorem timeOut_swrst (s : State) : (timeOut s).swrst = s.swrst := rfl
@[simp] theorem timeOut_cfg (s : State) : (timeOut s).cfg = s.cfg := rfl
@[simp] theorem timeOut_evSB (s : State) : (timeOut s).evSB = s.evSB := rfl
@[simp] theorem timeOut_evAddr (s : State) : (timeOut s).evAddr = s.evAddr := rfl
@[simp] theorem timeOut_evBtf (s : State) : (timeOut s).evBtf = s.evBtf := rfl
@[simp] theorem timeOut_polls (s : State) : (timeOut s).polls = 0 := rfl
@[simp] theorem timeOut_trace (s : State) : (timeOut s).trace = s.trace ++ [.stop] := rfl
@[simp] theorem timeOut_hmem (s : State) : (timeOut s).hmem = s.hmem := rfl
@[simp] theorem timeOut_par (s : State) : (timeOut s).par = s.par := rfl
@[simp] theorem timeOut_turns (s : State) : (timeOut s).turns = s.turns := rfl
@[simp] theorem timeOut_lastRead (s : State) : (timeOut s).lastRead = s.lastRead := rfl

/-! ### setImg -/

@[simp] theorem setImg_base (i : Image) (s : State) : (setImg i s).base = s.base := rfl
@[simp] theorem setImg_busy (i : Image) (s : State) : (setImg i s).busy = s.busy := rfl
@[simp] theorem setImg_ready (i : Image) (s : State) : (setImg i s).ready = s.ready := rfl
@[simp] theorem setImg_timeout (i : Image) (s : State) : (setImg i s).timeout = s.timeout := rfl
@[simp] theorem setImg_faulted (i : Image) (s : State) : (setImg i s).faulted = s.faulted := rfl
@[simp] theorem setImg_fcode (i : Image) (s : State) : (setImg i s).fcode = s.fcode := rfl
@[simp] theorem setImg_img (i : Image) (s : State) : (setImg i s).img = some i := rfl
@[simp] theorem setImg_phase (i : Image) (s : State) : (setImg i s).phase = s.phase := rfl
@[simp] theorem setImg_pl (i : Image) (s : State) : (setImg i s).pl = s.pl := rfl
@[simp] theorem setImg_idx (i : Image) (s : State) : (setImg i s).idx = s.idx := rfl
@[simp] theorem setImg_clkEn (i : Image) (s : State) : (setImg i s).clkEn = s.clkEn := rfl
@[simp] theorem setImg_pinsCfg (i : Image) (s : State) : (setImg i s).pinsCfg = s.pinsCfg := rfl
@[simp] theorem setImg_pe (i : Image) (s : State) : (setImg i s).pe = s.pe := rfl
@[simp] theorem setImg_swrst (i : Image) (s : State) : (setImg i s).swrst = s.swrst := rfl
@[simp] theorem setImg_cfg (i : Image) (s : State) : (setImg i s).cfg = s.cfg := rfl
@[simp] theorem setImg_evSB (i : Image) (s : State) : (setImg i s).evSB = s.evSB := rfl
@[simp] theorem setImg_evAddr (i : Image) (s : State) : (setImg i s).evAddr = s.evAddr := rfl
@[simp] theorem setImg_evBtf (i : Image) (s : State) : (setImg i s).evBtf = s.evBtf := rfl
@[simp] theorem setImg_polls (i : Image) (s : State) : (setImg i s).polls = s.polls := rfl
@[simp] theorem setImg_trace (i : Image) (s : State) : (setImg i s).trace = s.trace := rfl
@[simp] theorem setImg_hmem (i : Image) (s : State) : (setImg i s).hmem = s.hmem := rfl
@[simp] theorem setImg_par (i : Image) (s : State) : (setImg i s).par = s.par := rfl
@[simp] theorem setImg_turns (i : Image) (s : State) : (setImg i s).turns = s.turns := rfl
@[simp] theorem setImg_lastRead (i : Image) (s : State) : (setImg i s).lastRead = s.lastRead := rfl

/-! ### encodeBody -/

@[simp] theorem encodeBody_base (v : Value) (f : Bool) (s : State) : (encodeBody v f s).base = s.base := rfl
@[simp] theorem encodeBody_busy (v : Value) (f : Bool) (s : State) : (encodeBody v f s).busy = s.busy := rfl
@[simp] theorem encodeBody_ready (v : Value) (f : Bool) (s : State) : (encodeBody v f s).ready = s.ready := rfl
@[simp] theorem encodeBody_timeout (v : Value) (f : Bool) (s : State) : (encodeBody v f s).timeout = false := rfl
@[simp] theorem encodeBody_faulted (v : Value) (f : Bool) (s : State) : (encodeBody v f s).faulted = s.faulted := rfl
@[simp] theorem encodeBody_fcode (v : Value) (f : Bool) (s : State) : (encodeBody v f s).fcode = s.fcode := rfl
@[simp] theorem encodeBody_img (v : Value) (f : Bool) (s : State) : (encodeBody v f s).img = some (enc s.par v f) := rfl
@[simp] theorem encodeBody_phase (v : Value) (f : Bool) (s : State) : (encodeBody v f s).phase = s.phase := rfl
@[simp] theorem encodeBody_pl (v : Value) (f : Bool) (s : State) : (encodeBody v f s).pl = s.pl := rfl
@[simp] theorem encodeBody_idx (v : Value) (f : Bool) (s : State) : (encodeBody v f s).idx = s.idx := rfl
@[simp] theorem encodeBody_clkEn (v : Value) (f : Bool) (s : State) : (encodeBody v f s).clkEn = s.clkEn := rfl
@[simp] theorem encodeBody_pinsCfg (v : Value) (f : Bool) (s : State) : (encodeBody v f s).pinsCfg = s.pinsCfg := rfl
@[simp] theorem encodeBody_pe (v : Value) (f : Bool) (s : State) : (encodeBody v f s).pe = s.pe := rfl
@[simp] theorem encodeBody_swrst (v : Value) (f : Bool) (s : State) : (encodeBody v f s).swrst = s.swrst := rfl
@[simp] theorem encodeBody_cfg (v : Value) (f : Bool) (s : State) : (encodeBody v f s).cfg = s.cfg := rfl
@[simp] theorem encodeBody_evSB (v : Value) (f : Bool) (s : State) : (encodeBody v f s).evSB = s.evSB := rfl
@[simp] theorem encodeBody_evAddr (v : Value) (f : Bool) (s : State) : (encodeBody v f s).evAddr = s.evAddr := rfl
@[simp] theorem encodeBody_evBtf (v : Value) (f : Bool) (s : State) : (encodeBody v f s).evBtf = s.evBtf := rfl
@[simp] theorem encodeBody_polls (v : Value) (f : Bool) (s : State) : (encodeBody v f s).polls = s.polls := rfl
@[simp] theorem encodeBody_trace (v : Value) (f : Bool) (s : State) : (encodeBody v f s).trace = s.trace := rfl
@[simp] theorem encodeBody_hmem (v : Value) (f : Bool) (s : State) : (encodeBody v f s).hmem = s.hmem := rfl
@[simp] theorem encodeBody_par (v : Value) (f : Bool) (s : State) : (encodeBody v f s).par = s.par := rfl
@[simp] theorem encodeBody_turns (v : Value) (f : Bool) (s : State) : (encodeBody v f s).turns = s.turns := rfl
@[simp] theorem encodeBody_lastRead (v : Value) (f : Bool) (s : State) : (encodeBody v f s).lastRead = s.lastRead := rfl

/-! ### initBody -/

@[simp] theorem initBody_base (s : State) : (initBody s).base = s.base := rfl
@[simp] theorem initBody_busy (s : State) : (initBody s).busy = s.busy := rfl
@[simp] theorem initBody_ready (s : State) : (initBody s).ready = true := rfl
@[simp] theorem initBody_timeout (s : State) : (initBody s).timeout = false := rfl
@[simp] theorem initBody_faulted (s : State) : (initBody s).faulted = s.faulted := rfl
@[simp] theorem initBody_fcode (s : State) : (initBody s).fcode = s.fcode := rfl
@[simp] theorem initBody_img (s : State) : (initBody s).img = s.img := rfl
@[simp] theorem initBody_phase (s : State) : (initBody s).phase = .idle := rfl
@[simp] theorem initBody_pl (s : State) : (initBody s).pl = s.pl := rfl
@[simp] theorem initBody_idx (s : State) : (initBody s).idx = s.idx := rfl
@[simp] theorem initBody_clkEn (s : State) : (initBody s).clkEn = true := rfl
@[simp] theorem initBody_pinsCfg (s : State) : (initBody s).pinsCfg = true := rfl
@[simp] theorem initBody_pe (s : State) : (initBody s).pe = true := rfl
@[simp] theorem initBody_swrst (s : State) : (initBody s).swrst = false := rfl
@[simp] theorem initBody_cfg (s : State) : (initBody s).cfg = .configured fixedCfg := rfl
@[simp] theorem initBody_evSB (s : State) : (initBody s).evSB = false := rfl
@[simp] theorem initBody_evAddr (s : State) : (initBody s).evAddr = false := rfl
@[simp] theorem initBody_evBtf (s : State) : (initBody s).evBtf = false := rfl
@[simp] theorem initBody_polls (s : State) : (initBody s).polls = 0 := rfl
@[simp] theorem initBody_trace (s : State) : (initBody s).trace = s.trace := rfl
@[simp] theorem initBody_hmem (s : State) : (initBody s).hmem = s.hmem := rfl
@[simp] theorem initBody_par (s : State) : (initBody s).par = s.par := rfl
@[simp] theorem initBody_turns (s : State) : (initBody s).turns = s.turns := rfl
@[simp] theorem initBody_lastRead (s : State) : (initBody s).lastRead = s.lastRead := rfl

/-! ### drawBody -/

@[simp] theorem drawBody_base (v : Value) (f : Bool) (s : State) : (drawBody v f s).base = s.base := rfl
@[simp] theorem drawBody_busy (v : Value) (f : Bool) (s : State) : (drawBody v f s).busy = true := rfl
@[simp] theorem drawBody_ready (v : Value) (f : Bool) (s : State) : (drawBody v f s).ready = s.ready := rfl
@[simp] theorem drawBody_timeout (v : Value) (f : Bool) (s : State) : (drawBody v f s).timeout = false := rfl
@[simp] theorem drawBody_faulted (v : Value) (f : Bool) (s : State) : (drawBody v f s).faulted = s.faulted := rfl
@[simp] theorem drawBody_fcode (v : Value) (f : Bool) (s : State) : (drawBody v f s).fcode = s.fcode := rfl
@[simp] theorem drawBody_img (v : Value) (f : Bool) (s : State) : (drawBody v f s).img = some (enc s.par v f) := rfl
@[simp] theorem drawBody_phase (v : Value) (f : Bool) (s : State) : (drawBody v f s).phase = .wSB := rfl
@[simp] theorem drawBody_pl (v : Value) (f : Bool) (s : State) : (drawBody v f s).pl = drawPayload (enc s.par v f) := rfl
@[simp] theorem drawBody_idx (v : Value) (f : Bool) (s : State) : (drawBody v f s).idx = 0 := rfl
@[simp] theorem drawBody_clkEn (v : Value) (f : Bool) (s : State) : (drawBody v f s).clkEn = s.clkEn := rfl
@[simp] theorem drawBody_pinsCfg (v : Value) (f : Bool) (s : State) : (drawBody v f s).pinsCfg = s.pinsCfg := rfl
@[simp] theorem drawBody_pe (v : Value) (f : Bool) (s : State) : (drawBody v f s).pe = true := rfl
@[simp] theorem drawBody_swrst (v : Value) (f : Bool) (s : State) : (drawBody v f s).swrst = false := rfl
@[simp] theorem drawBody_cfg (v : Value) (f : Bool) (s : State) : (drawBody v f s).cfg = .configured fixedCfg := rfl
@[simp] theorem drawBody_evSB (v : Value) (f : Bool) (s : State) : (drawBody v f s).evSB = false := rfl
@[simp] theorem drawBody_evAddr (v : Value) (f : Bool) (s : State) : (drawBody v f s).evAddr = false := rfl
@[simp] theorem drawBody_evBtf (v : Value) (f : Bool) (s : State) : (drawBody v f s).evBtf = false := rfl
@[simp] theorem drawBody_polls (v : Value) (f : Bool) (s : State) : (drawBody v f s).polls = 0 := rfl
@[simp] theorem drawBody_trace (v : Value) (f : Bool) (s : State) : (drawBody v f s).trace = s.trace ++ [.start] := rfl
@[simp] theorem drawBody_hmem (v : Value) (f : Bool) (s : State) : (drawBody v f s).hmem = s.hmem := rfl
@[simp] theorem drawBody_par (v : Value) (f : Bool) (s : State) : (drawBody v f s).par = s.par := rfl
@[simp] theorem drawBody_turns (v : Value) (f : Bool) (s : State) : (drawBody v f s).turns = s.turns := rfl
@[simp] theorem drawBody_lastRead (v : Value) (f : Bool) (s : State) : (drawBody v f s).lastRead = s.lastRead := rfl

/-! ### hostReadStatus -/

@[simp] theorem hostReadStatus_base (s : State) : (hostReadStatus s).base = s.base := rfl
@[simp] theorem hostReadStatus_busy (s : State) : (hostReadStatus s).busy = s.busy := rfl
@[simp] theorem hostReadStatus_ready (s : State) : (hostReadStatus s).ready = s.ready := rfl
@[simp] theorem hostReadStatus_timeout (s : State) : (hostReadStatus s).timeout = s.timeout := rfl
@[simp] theorem hostReadStatus_faulted (s : State) : (hostReadStatus s).faulted = s.faulted := rfl
@[simp] theorem hostReadStatus_fcode (s : State) : (hostReadStatus s).fcode = s.fcode := rfl
@[simp] theorem hostReadStatus_img (s : State) : (hostReadStatus s).img = s.img := rfl
@[simp] theorem hostReadStatus_phase (s : State) : (hostReadStatus s).phase = s.phase := rfl
@[simp] theorem hostReadStatus_pl (s : State) : (hostReadStatus s).pl = s.pl := rfl
@[simp] theorem hostReadStatus_idx (s : State) : (hostReadStatus s).idx = s.idx := rfl
@[simp] theorem hostReadStatus_clkEn (s : State) : (hostReadStatus s).clkEn = s.clkEn := rfl
@[simp] theorem hostReadStatus_pinsCfg (s : State) : (hostReadStatus s).pinsCfg = s.pinsCfg := rfl
@[simp] theorem hostReadStatus_pe (s : State) : (hostReadStatus s).pe = s.pe := rfl
@[simp] theorem hostReadStatus_swrst (s : State) : (hostReadStatus s).swrst = s.swrst := rfl
@[simp] theorem hostReadStatus_cfg (s : State) : (hostReadStatus s).cfg = s.cfg := rfl
@[simp] theorem hostReadStatus_evSB (s : State) : (hostReadStatus s).evSB = s.evSB := rfl
@[simp] theorem hostReadStatus_evAddr (s : State) : (hostReadStatus s).evAddr = s.evAddr := rfl
@[simp] theorem hostReadStatus_evBtf (s : State) : (hostReadStatus s).evBtf = s.evBtf := rfl
@[simp] theorem hostReadStatus_polls (s : State) : (hostReadStatus s).polls = s.polls := rfl
@[simp] theorem hostReadStatus_trace (s : State) : (hostReadStatus s).trace = s.trace := rfl
@[simp] theorem hostReadStatus_hmem (s : State) : (hostReadStatus s).hmem = s.hmem := rfl
@[simp] theorem hostReadStatus_par (s : State) : (hostReadStatus s).par = s.par := rfl
@[simp] theorem hostReadStatus_turns (s : State) : (hostReadStatus s).turns = s.turns := rfl
@[simp] theorem hostReadStatus_lastRead (s : State) : (hostReadStatus s).lastRead = some (.status s.status) := rfl

/-! ### powerOnReset -/

@[simp] theorem powerOnReset_base (s : State) : (powerOnReset s).base = State.reset.base := rfl
@[simp] theorem powerOnReset_busy (s : State) : (powerOnReset s).busy = State.reset.busy := rfl
@[simp] theorem powerOnReset_ready (s : State) : (powerOnReset s).ready = State.reset.ready := rfl
@[simp] theorem powerOnReset_timeout (s : State) : (powerOnReset s).timeout = State.reset.timeout := rfl
@[simp] theorem powerOnReset_faulted (s : State) : (powerOnReset s).faulted = State.reset.faulted := rfl
@[simp] theorem powerOnReset_fcode (s : State) : (powerOnReset s).fcode = State.reset.fcode := rfl
@[simp] theorem powerOnReset_img (s : State) : (powerOnReset s).img = State.reset.img := rfl
@[simp] theorem powerOnReset_phase (s : State) : (powerOnReset s).phase = State.reset.phase := rfl
@[simp] theorem powerOnReset_pl (s : State) : (powerOnReset s).pl = State.reset.pl := rfl
@[simp] theorem powerOnReset_idx (s : State) : (powerOnReset s).idx = State.reset.idx := rfl
@[simp] theorem powerOnReset_clkEn (s : State) : (powerOnReset s).clkEn = State.reset.clkEn := rfl
@[simp] theorem powerOnReset_pinsCfg (s : State) : (powerOnReset s).pinsCfg = State.reset.pinsCfg := rfl
@[simp] theorem powerOnReset_pe (s : State) : (powerOnReset s).pe = State.reset.pe := rfl
@[simp] theorem powerOnReset_swrst (s : State) : (powerOnReset s).swrst = State.reset.swrst := rfl
@[simp] theorem powerOnReset_cfg (s : State) : (powerOnReset s).cfg = State.reset.cfg := rfl
@[simp] theorem powerOnReset_evSB (s : State) : (powerOnReset s).evSB = State.reset.evSB := rfl
@[simp] theorem powerOnReset_evAddr (s : State) : (powerOnReset s).evAddr = State.reset.evAddr := rfl
@[simp] theorem powerOnReset_evBtf (s : State) : (powerOnReset s).evBtf = State.reset.evBtf := rfl
@[simp] theorem powerOnReset_polls (s : State) : (powerOnReset s).polls = State.reset.polls := rfl
@[simp] theorem powerOnReset_trace (s : State) : (powerOnReset s).trace = State.reset.trace := rfl
@[simp] theorem powerOnReset_hmem (s : State) : (powerOnReset s).hmem = s.hmem := rfl
@[simp] theorem powerOnReset_par (s : State) : (powerOnReset s).par = s.par := rfl
@[simp] theorem powerOnReset_turns (s : State) : (powerOnReset s).turns = s.turns := rfl
@[simp] theorem powerOnReset_lastRead (s : State) : (powerOnReset s).lastRead = s.lastRead := rfl

/-! ### busAnswer -/

@[simp] theorem busAnswer_base (s : State) : (busAnswer s).base = s.base := by
  unfold busAnswer; split <;> rfl
@[simp] theorem busAnswer_busy (s : State) : (busAnswer s).busy = s.busy := by
  unfold busAnswer; split <;> rfl
@[simp] theorem busAnswer_ready (s : State) : (busAnswer s).ready = s.ready := by
  unfold busAnswer; split <;> rfl
@[simp] theorem busAnswer_timeout (s : State) : (busAnswer s).timeout = s.timeout := by
  unfold busAnswer; split <;> rfl
@[simp] theorem busAnswer_faulted (s : State) : (busAnswer s).faulted = s.faulted := by
  unfold busAnswer; split <;> rfl
@[simp] theorem busAnswer_fcode (s : State) : (busAnswer s).fcode = s.fcode := by
  unfold busAnswer; split <;> rfl
@[simp] theorem busAnswer_img (s : State) : (busAnswer s).img = s.img := by
  unfold busAnswer; split <;> rfl
@[simp] theorem busAnswer_phase (s : State) : (busAnswer s).phase = s.phase := by
  unfold busAnswer; split <;> rfl
@[simp] theorem busAnswer_pl (s : State) : (busAnswer s).pl = s.pl := by
  unfold busAnswer; split <;> rfl
@[simp] theorem busAnswer_idx (s : State) : (busAnswer s).idx = s.idx := by
  unfold busAnswer; split <;> rfl
@[simp] theorem busAnswer_clkEn (s : State) : (busAnswer s).clkEn = s.clkEn := by
  unfold busAnswer; split <;> rfl
@[simp] theorem busAnswer_pinsCfg (s : State) : (busAnswer s).pinsCfg = s.pinsCfg := by
  unfold busAnswer; split <;> rfl
@[simp] theorem busAnswer_pe (s : State) : (busAnswer s).pe = s.pe := by
  unfold busAnswer; split <;> rfl
@[simp] theorem busAnswer_swrst (s : State) : (busAnswer s).swrst = s.swrst := by
  unfold busAnswer; split <;> rfl
@[simp] theorem busAnswer_cfg (s : State) : (busAnswer s).cfg = s.cfg := by
  unfold busAnswer; split <;> rfl
@[simp] theorem busAnswer_polls (s : State) : (busAnswer s).polls = s.polls := by
  unfold busAnswer; split <;> rfl
@[simp] theorem busAnswer_trace (s : State) : (busAnswer s).trace = s.trace := by
  unfold busAnswer; split <;> rfl
@[simp] theorem busAnswer_hmem (s : State) : (busAnswer s).hmem = s.hmem := by
  unfold busAnswer; split <;> rfl
@[simp] theorem busAnswer_par (s : State) : (busAnswer s).par = s.par := by
  unfold busAnswer; split <;> rfl
@[simp] theorem busAnswer_turns (s : State) : (busAnswer s).turns = s.turns := by
  unfold busAnswer; split <;> rfl
@[simp] theorem busAnswer_lastRead (s : State) : (busAnswer s).lastRead = s.lastRead := by
  unfold busAnswer; split <;> rfl

end Sys2Proof.Machine
end

