-- ==== Sys2Proof/Laws/Ops.lean ====
section
/-! SUPPORT. One lemma per shared operation: everything it can do. -/

namespace Sys2Proof.Machine

/-! ## Acceptance (60_exceptions.md R161) -/

/-- A checked command is ignored, faults for BUSY, or runs its body. -/
theorem accept_cases (body : State → State) (s : State) :
    (s.phase = .fault ∧ accept body s = s) ∨
    (s.phase ≠ .fault ∧ s.busy = true ∧ accept body s = raise .busyViolation s) ∨
    (s.phase ≠ .fault ∧ s.busy = false ∧ accept body s = body s) := by
  unfold accept
  split
  · exact .inl ⟨‹_›, rfl⟩
  · split
    · exact .inr (.inl ⟨‹_›, ‹_›, rfl⟩)
    · exact .inr (.inr ⟨‹_›, by simpa using ‹¬s.busy = true›, rfl⟩)

theorem accept_fault (body : State → State) (s : State) (h : s.phase = .fault) : accept body s = s := by
  simp [accept, h]

theorem accept_busy (body : State → State) (s : State) (h : s.phase ≠ .fault) (hb : s.busy = true) :
    accept body s = raise .busyViolation s := by
  simp [accept, h, hb]

theorem accept_free (body : State → State) (s : State) (h : s.phase ≠ .fault) (hb : s.busy = false) :
    accept body s = body s := by
  simp [accept, h, hb]

/-- A transaction command faults in OFF, and else runs its body. -/
theorem requireInit_cases (body : State → State) (s : State) :
    (s.phase = .off ∧ requireInit body s = raise .notInitialised s) ∨ (s.phase ≠ .off ∧ requireInit body s = body s) := by
  unfold requireInit
  split
  · exact .inl ⟨‹_›, rfl⟩
  · exact .inr ⟨‹_›, rfl⟩

/-- What WRITE_RAM does once the first checks are passed. -/
theorem wramBody_cases (o c : Byte) (s : State) :
    (s.base = none ∧ wramBody o c s = raise .illegalCommand s) ∨
    (∃ b, s.base = some b ∧ s.phase = .off ∧ wramBody o c s = raise .notInitialised s) ∨
    (∃ b, s.base = some b ∧ s.phase ≠ .off ∧ wramBody o c s = beginTxn (wramPayload o c b) s) := by
  unfold wramBody
  split
  · exact .inl ⟨‹_›, rfl⟩
  · rename_i b hb
    rcases requireInit_cases (beginTxn (wramPayload o c b)) s with ⟨h, e⟩ | ⟨h, e⟩
    · exact .inr (.inl ⟨b, hb, h, e⟩)
    · exact .inr (.inr ⟨b, hb, h, e⟩)

/-- What a command does once the first checks are passed: faults, starts a transaction, or completes at once. -/
def acceptedBody : Instr → State → State
  | .init => initBody
  | .enable => fun s => requireInit (beginTxn (enablePayload s.par)) s
  | .disable => fun s => requireInit (beginTxn (disablePayload s.par)) s
  | .wram o c => wramBody o c
  | .encode v f => encodeBody v f
  | .draw v f => requireInit (drawBody v f)

/-- Every command is a checked body, and no command ends in a fault or a refusal of the model. -/
theorem exec_eq (i : Instr) (s : State) : exec i s = .next (accept (acceptedBody i) s) := by
  cases i <;> rfl

/-- Everything an accepted command can do. -/
theorem acceptedBody_cases (i : Instr) (s : State) :
    (∃ c, c ≠ FaultCode.none ∧ acceptedBody i s = raise c s) ∨
    (i = .init ∧ acceptedBody i s = initBody s) ∨
    (∃ v f, i = .encode v f ∧ acceptedBody i s = encodeBody v f s) ∨
    (s.phase ≠ .off ∧ ∃ v f, i = .draw v f ∧ acceptedBody i s = drawBody v f s) ∨
    (s.phase ≠ .off ∧ i = .enable ∧ acceptedBody i s = beginTxn (enablePayload s.par) s) ∨
    (s.phase ≠ .off ∧ i = .disable ∧ acceptedBody i s = beginTxn (disablePayload s.par) s) ∨
    (s.phase ≠ .off ∧ ∃ o c b, i = .wram o c ∧ s.base = some b ∧ acceptedBody i s = beginTxn (wramPayload o c b) s) := by
  cases i with
  | init => exact .inr (.inl ⟨rfl, rfl⟩)
  | enable =>
    rcases requireInit_cases (beginTxn (enablePayload s.par)) s with ⟨_, e⟩ | ⟨h, e⟩
    · exact .inl ⟨_, by decide, e⟩
    · exact .inr (.inr (.inr (.inr (.inl ⟨h, rfl, e⟩))))
  | disable =>
    rcases requireInit_cases (beginTxn (disablePayload s.par)) s with ⟨_, e⟩ | ⟨h, e⟩
    · exact .inl ⟨_, by decide, e⟩
    · exact .inr (.inr (.inr (.inr (.inr (.inl ⟨h, rfl, e⟩)))))
  | wram o c =>
    rcases wramBody_cases o c s with ⟨_, e⟩ | ⟨_, _, _, e⟩ | ⟨b, hb, h, e⟩
    · exact .inl ⟨_, by decide, e⟩
    · exact .inl ⟨_, by decide, e⟩
    · exact .inr (.inr (.inr (.inr (.inr (.inr ⟨h, o, c, b, rfl, hb, e⟩)))))
  | encode v f => exact .inr (.inr (.inl ⟨v, f, rfl, rfl⟩))
  | draw v f =>
    rcases requireInit_cases (drawBody v f) s with ⟨_, e⟩ | ⟨h, e⟩
    · exact .inl ⟨_, by decide, e⟩
    · exact .inr (.inr (.inr (.inl ⟨h, v, f, rfl, e⟩)))

/-! ## The sequencer (40_bus_transport.md R92) -/

/-- A wait with its flag at 0: hold, count, or time out. -/
theorem missedPoll_cases (s : State) :
    (s.par.waitPolicy = .spinForever ∧ missedPoll s = s) ∨
    (∃ n, s.par.waitPolicy = .bounded n ∧ s.polls + 1 < n ∧ missedPoll s = { s with polls := s.polls + 1 }) ∨
    (∃ n, s.par.waitPolicy = .bounded n ∧ n ≤ s.polls + 1 ∧ missedPoll s = timeOut s) := by
  unfold missedPoll
  split
  · exact .inl ⟨‹_›, rfl⟩
  · rename_i n hn
    split
    · exact .inr (.inl ⟨n, hn, ‹_›, rfl⟩)
    · exact .inr (.inr ⟨n, hn, by omega, rfl⟩)

/-- Payload byte `k`: the transaction ends, a byte is sent, or the sequencer is stuck. -/
theorem sendPayload_cases (k : Nat) (s : State) :
    (s.pl[k]? = none ∧ sendPayload k s = .next (finishTxn s)) ∨
    (∃ x b, s.pl[k]? = some x ∧ s.fetch x = some b ∧ sendPayload k s = .next { sendByte b s with idx := k + 1 }) ∨
    (∃ a, s.pl[k]? = some (.mem a) ∧ s.memRead a = none ∧ sendPayload k s = .fault (.stuckRead a)) := by
  unfold sendPayload
  split
  · exact .inl ⟨‹_›, rfl⟩
  · rename_i b hb
    exact .inr (.inl ⟨.lit b, b, hb, rfl, rfl⟩)
  · rename_i a ha
    split
    · rename_i b hb
      exact .inr (.inl ⟨.mem a, b, ha, hb, rfl⟩)
    · exact .inr (.inr ⟨a, ha, ‹_›, rfl⟩)

/-- Everything a sequencer turn can answer with a next state. -/
theorem sequencerTurn_cases {s t : State} (h : sequencerTurn s = .next t) :
    (s.phase.isWait = false ∧ t = s) ∨
    (s.phase.isWait = true ∧ s.awaited = false ∧ t = missedPoll s) ∨
    (s.phase = .wSB ∧ s.evSB = true ∧ t = sendAddress 0 (consumeSB s)) ∨
    (∃ x b, s.phase = .wAddr ∧ s.evAddr = true ∧ s.pl[0]? = some x ∧ s.fetch x = some b ∧
      t = { sendByte b (consumeAddr s) with idx := 1 }) ∨
    (s.phase = .wAddr ∧ s.evAddr = true ∧ s.pl = [] ∧ t = finishTxn (consumeAddr s)) ∨
    (∃ x b, s.phase = .wBtf ∧ s.evBtf = true ∧ s.pl[s.idx]? = some x ∧ s.fetch x = some b ∧
      t = { sendByte b (consumeBtf s) with idx := s.idx + 1 }) ∨
    (s.phase = .wBtf ∧ s.evBtf = true ∧ s.pl.length ≤ s.idx ∧ t = finishTxn (consumeBtf s)) := by
  unfold sequencerTurn at h
  split at h
  · cases h; simp_all [Phase.isWait]
  · cases h; simp_all [Phase.isWait]
  · cases h; simp_all [Phase.isWait]
  · split at h <;> cases h <;> simp_all [Phase.isWait, State.awaited]
  · split at h
    · rename_i hp he
      rcases sendPayload_cases 0 (consumeAddr s) with ⟨h0, e⟩ | ⟨x, b, h0, hf, e⟩ | ⟨a, _, _, e⟩ <;> rw [e] at h <;> cases h
      · simp_all
      · exact .inr (.inr (.inr (.inl ⟨x, b, hp, he, h0, hf, rfl⟩)))
    · cases h; simp_all [Phase.isWait, State.awaited]
  · split at h
    · rename_i hp he
      rcases sendPayload_cases s.idx (consumeBtf s) with ⟨h0, e⟩ | ⟨x, b, h0, hf, e⟩ | ⟨a, _, _, e⟩ <;> rw [e] at h <;> cases h
      · simp_all
      · exact .inr (.inr (.inr (.inr (.inr (.inl ⟨x, b, hp, he, h0, hf, rfl⟩)))))
    · cases h; simp_all [Phase.isWait, State.awaited]

/-- A sequencer turn never refuses. -/
theorem sequencerTurn_ne_refused (s : State) (r : Refusal) : sequencerTurn s ≠ .refused r := by
  unfold sequencerTurn sendPayload
  intro h
  repeat' split at h
  all_goals cases h

/-! ## The host's turn -/

/-- Everything a host turn can answer with a next state. -/
theorem hostTurn_cases {a : HostAct} {s t : State} (h : hostTurn a s = .next t) :
    (∃ w i, a = .writeCmd w ∧ decode w = .ok i ∧ t = accept (acceptedBody i) s) ∨
    (∃ w e, a = .writeCmd w ∧ decode w = .error e ∧ t = accept (raise .illegalCommand) s) ∨
    (∃ b, a = .writeBase b ∧ b < s.par.addrSpace ∧ t = { s with base := some b }) ∨
    (a = .readStatus ∧ t = hostReadStatus s) ∨
    (∃ img, a = .readImg ∧ s.img = some img ∧ t = { s with lastRead := some (.img img.word) }) ∨
    (a = .readImg ∧ s.img = none ∧ s.phase = .fault ∧ t = { s with lastRead := some .noValue }) ∨
    (a = .readImg ∧ s.img = none ∧ s.phase ≠ .fault ∧ t = raise .imgUnwritten { s with lastRead := some .noValue }) ∨
    (∃ b x, a = .writeMem b x ∧ b < s.par.addrSpace ∧ t = { s with hmem := s.hmem.write b x }) := by
  cases a with
  | writeCmd w =>
    simp only [hostTurn, hostWriteCmd] at h
    split at h
    · rename_i i hi
      rw [exec_eq] at h
      cases h
      exact .inl ⟨w, i, rfl, hi, rfl⟩
    · rename_i e he
      cases h
      exact .inr (.inl ⟨w, e, rfl, he, rfl⟩)
  | writeBase b =>
    simp only [hostTurn, hostWriteBase] at h
    split at h <;> cases h
    exact .inr (.inr (.inl ⟨b, rfl, ‹_›, rfl⟩))
  | readStatus =>
    cases h
    exact .inr (.inr (.inr (.inl ⟨rfl, rfl⟩)))
  | readImg =>
    simp only [hostTurn, hostReadImg] at h
    split at h
    · rename_i img hi
      cases h
      exact .inr (.inr (.inr (.inr (.inl ⟨img, rfl, hi, rfl⟩))))
    · rename_i hi
      split at h <;> cases h
      · exact .inr (.inr (.inr (.inr (.inr (.inl ⟨rfl, hi, ‹_›, rfl⟩)))))
      · exact .inr (.inr (.inr (.inr (.inr (.inr (.inl ⟨rfl, hi, ‹_›, rfl⟩))))))
  | writeMem b x =>
    simp only [hostTurn, hostWriteMem] at h
    split at h <;> cases h
    exact .inr (.inr (.inr (.inr (.inr (.inr (.inr ⟨b, x, rfl, ‹_›, rfl⟩))))))

/-! ## One step -/

/-- A step is the next move, or the sequencer's turn where no move is left. -/
theorem step_cases {s t : State} (h : step s = .next t) :
    (s.turns = [] ∧ sequencerTurn s = .next t) ∨
    (∃ m ms, s.turns = m :: ms ∧ makeMove m { s with turns := ms } = .next t) := by
  unfold step at h
  split at h
  · exact .inl ⟨‹_›, h⟩
  · exact .inr ⟨_, _, ‹_›, h⟩

end Sys2Proof.Machine
end

