-- ==== Sys2Proof/Laws/PerInstr.lean ====
section
/-! SUPPORT. The per-instruction family EncodedRow: the encoded word of an instruction hits that instruction's row of the opcode map. -/

namespace Sys2Proof.Laws.EncodedRow

/-- The encoded word lies under its own row's mask and match (30_encoding.md R62). -/
def Statement (i : Instr) : Prop := i.opcode.hits (encode i) = true

theorem init : Statement .init := by unfold Statement; decide

theorem enable : Statement .enable := by unfold Statement; decide

theorem disable : Statement .disable := by unfold Statement; decide

theorem wram (origin count : Byte) : Statement (.wram origin count) :=
  beq_iff_eq.mpr (encode_wram_and origin count)

theorem encode (value : Value) (f : Bool) : Statement (.encode value f) :=
  beq_iff_eq.mpr (encode_encode_and value f)

theorem draw (value : Value) (f : Bool) : Statement (.draw value f) :=
  beq_iff_eq.mpr (encode_draw_and value f)

end Sys2Proof.Laws.EncodedRow
end

