-- ==== Sys2Proof/Laws/Run.lean ====
section
/-! SUPPORT. Runs of steps: how they compose, and what the bytes of a payload depend on. -/

namespace Sys2Proof.Machine

/-- A run of `a + b` steps is a run of `a` steps and then one of `b`. -/
theorem run_add (a b : Nat) (s : State) :
    run (a + b) s = (match run a s with | .next t => run b t | .fault r => .fault r | .refused r => .refused r) := by
  induction a generalizing s with
  | zero => simp [run]
  | succ a ih =>
    rw [Nat.succ_add]
    simp only [run]
    cases step s <;> simp [ih]

/-- The bytes of a payload depend on host memory and the parameters alone. -/
theorem fetchAll_congr (s t : State) (hm : t.hmem = s.hmem) (hp : t.par = s.par) (l : List ByteSource) :
    t.fetchAll l = s.fetchAll l := by
  have hf : ∀ x, t.fetch x = s.fetch x := by
    intro x
    cases x <;> simp [State.fetch, State.memRead, State.readByte, hm, hp]
  induction l with
  | nil => rfl
  | cons x xs ih => simp only [State.fetchAll, hf, ih]

end Sys2Proof.Machine
end

