-- ==== Sys2Proof/Tests/Slice0.lean ====
section
/-! SUPPORT. The model's own tests. Expected values come from 95_test_vectors.md (E, V, X, W, B, F, H, T, R vectors) and from the examples
in the rules; the parameter values are made up, as BUS_ADDR = 0x38 is in 40_bus_transport.md R83. The theorems named witness_<Name> show a
concrete state that meets the hypotheses of Obligations.<Name> together. -/

namespace Sys2Proof.Tests

open Sys2Proof Sys2Proof.Machine

/-! ## Small states -/

/-- Made-up masks for the digits 1 to 9, no two alike. -/
def madeUp (k : Nat) (d : Nat) : Mask := ⟨BitVec.ofNat 8 (16 * k + d), BitVec.ofNat 8 (128 + 16 * k + d)⟩

/-- Made-up parameters with the digit-0 masks of 42_segment_encoder.md R124; host addresses have 10 bits. -/
def spinPar : Params where
  busAddr := 0x38
  cmdEnable := 0xC8
  cmdDisable := 0xC0
  unitsTab := Config.table ⟨0x1F, 0x0A⟩ (madeUp 1)
  tensTab := Config.table ⟨0xA5, 0x10⟩ (madeUp 2)
  hundredsTab := Config.table ⟨0x8D, 0x50⟩ (madeUp 3)
  addrWidth := 10
  waitPolicy := .spinForever

/-- The same with WAIT_POLICY = Bounded(2). -/
def boundedPar : Params := { spinPar with waitPolicy := .bounded 2 }

/-- Power-on state of a block with given parameters. -/
def cold (p : Params) : State := { State.reset with par := p }

/-- After INIT (43_facade.md R140, its example). -/
def warm (p : Params) : State :=
  { cold p with clkEn := true, pinsCfg := true, pe := true, cfg := .configured fixedCfg, ready := true, phase := .idle }

/-- After INIT, BASE = 0x100 and M[0x100] = 0xAA, M[0x101] = 0x55. -/
def loaded (p : Params) : State := { warm p with base := some 0x100, hmem := [(0x100, 0xAA), (0x101, 0x55)] }

/-- A transaction with the given payload, in a wait state. -/
def inWait (p : Params) (ph : Phase) (pl : List ByteSource) (idx : Nat) : State :=
  { loaded p with busy := true, phase := ph, pl := pl, idx := idx }

/-- A block in PHASE FAULT. -/
def broken (p : Params) : State := { warm p with phase := .fault, faulted := true, fcode := .illegalCommand }

/-- The payload of `wram 0x05, 2, 0x100`. -/
def wram2 : List ByteSource := [.lit 0x44, .lit 0x05, .mem 0x100, .mem 0x101]

/-- The next state, if there is one. -/
def next? (o : Host.Outcome State Fault Refusal) : Option State :=
  match o with
  | .next t => some t
  | .fault _ => none
  | .refused _ => none

/-- The fault, if there is one. -/
def fault? (o : Host.Outcome State Fault Refusal) : Option Fault :=
  match o with
  | .next _ => none
  | .fault r => some r
  | .refused _ => none

/-- The refusal, if there is one. -/
def refused? (o : Host.Outcome State Fault Refusal) : Option Refusal :=
  match o with
  | .next _ => none
  | .fault _ => none
  | .refused r => some r

/-! ## Well-formedness -/

theorem test_wf_params : spinPar.wellFormed = true ∧ boundedPar.wellFormed = true := by decide
theorem test_wf_addr_width_zero : ({ spinPar with addrWidth := 0 } : Params).wellFormed = false := by decide
theorem test_wf_bounded_zero : ({ spinPar with waitPolicy := .bounded 0 } : Params).wellFormed = false := by decide
theorem test_digit0_params : spinPar.digit0 = true := by decide
theorem test_digit0_units_prim :
    ({ spinPar with unitsTab := Config.table ⟨0x1E, 0x0A⟩ (madeUp 1) } : Params).digit0 = false := by decide
theorem test_digit0_units_sec :
    ({ spinPar with unitsTab := Config.table ⟨0x1F, 0x00⟩ (madeUp 1) } : Params).digit0 = false := by decide
theorem test_digit0_tens_sec :
    ({ spinPar with tensTab := Config.table ⟨0xA5, 0x00⟩ (madeUp 2) } : Params).digit0 = false := by decide
theorem test_digit0_hundreds_sec :
    ({ spinPar with hundredsTab := Config.table ⟨0x8D, 0x51⟩ (madeUp 3) } : Params).digit0 = false := by decide
theorem test_memory_order : ¬ Memory.wf [(5, 0), (4, 0)] := by decide
theorem test_memory_repeat : ¬ Memory.wf [(5, 0), (5, 1)] := by decide
theorem test_instr_wf : ∀ i ∈ [Instr.init, .enable, .disable, .wram 0xFF 0xFF, .encode 0xFFFF true, .draw 0 false],
    i.wellFormed = true := by decide

/-! ## Decoding: vectors W1 to W19, the words written out from 30_encoding.md R60 -/

theorem test_w1 : decode 0b0000000000000000000000000000_0001 = .ok .init := by decide
theorem test_w2 : decode 0b0000000000000000000000000000_0010 = .ok .enable := by decide
theorem test_w3 : decode 0b0000000000000000000000000000_0011 = .ok .disable := by decide
theorem test_w4 : decode 0b00000000_00000010_00000101_0000_0100 = .ok (.wram 0x05 2) := by decide
theorem test_w5 : decode 0b00000000_00000000_00000000_0000_0100 = .ok (.wram 0 0) := by decide
theorem test_w6 : decode 0b00000000_11111111_11111111_0000_0100 = .ok (.wram 0xFF 255) := by decide
theorem test_w7 : decode 0b0000000000000000_00000000000_1_0101 = .ok (.encode 0x0000 true) := by decide
theorem test_w8 : decode 0b0010000000000000_00000000000_1_0101 = .ok (.encode 0x2000 true) := by decide
theorem test_w9 : decode 0b1111111111111111_00000000000_0_0101 = .ok (.encode 0xFFFF false) := by decide
theorem test_w10 : decode 0b0001000000000000_00000000000_0_0110 = .ok (.draw 0x1000 false) := by decide
theorem test_w11 : decode 0b0000000000000000_00000000000_1_0110 = .ok (.draw 0x0000 true) := by decide
theorem test_w12 : decode 0x00000000 = .error (.reservedOpcode 0) := by decide
theorem test_w13 : decode 0x00000007 = .error (.reservedOpcode 7) := by decide
theorem test_w14 : decode 0x0000000F = .error (.reservedOpcode 15) := by decide
theorem test_w15 : decode 0x00000011 = .error (.reservedBits 1) := by decide
theorem test_w16 : decode 0x01000004 = .error (.reservedBits 4) := by decide
theorem test_w17 : decode 0x00000025 = .error (.reservedBits 5) := by decide
theorem test_w18 : decode 0x80000012 = .error (.reservedBits 2) := by decide
theorem test_w19 : decode 0x00000014 = .error (.reservedBits 4) := by decide

/-- The words of the programs P1 to P6, from the encoder. -/
theorem test_encode_words :
    encode .init = 0x00000001 ∧ encode .enable = 0x00000002 ∧ encode .disable = 0x00000003 ∧
    encode (.wram 0x05 2) = 0x00020504 ∧ encode (.encode 0x00A0 false) = 0x00A00005 ∧
    encode (.draw 0x1234 true) = 0x12340016 := by decide

theorem test_table_word : decodeTableWord 32 0x00020504 = some (.wram 0x05 2) ∧ decodeTableWord 32 0x0F = none := by decide

/-! ## The encoder: vectors V5, V6, V14, X1 to X10, Y1, Y2 -/

theorem test_invalid : invalid 0x1FFF = true ∧ invalid 0x2000 = true ∧ invalid 0x04D2 = true ∧ invalid 0x000A = true ∧
    invalid 0x00A0 = true ∧ invalid 0x0A00 = true := by decide
theorem test_valid : invalid 0x0000 = false ∧ invalid 0x1999 = false ∧ invalid 0x1000 = false ∧ invalid 0x0900 = false := by
  decide
theorem test_enc_zero : (enc spinPar 0 false).word = 0x509DAF1F ∧ (enc spinPar 0 true).word = 0x509DBF1F := by decide
theorem test_enc_thousand : (enc spinPar 0x1000 false).word = 0x709DAF1F ∧ (enc spinPar 0x1000 true).word = 0x709DBF1F := by
  decide
theorem test_enc_invalid : (enc spinPar 0x2000 true).word = 0x00424080 ∧ (enc spinPar 0x000A true).word = 0x00424080 := by
  decide
/-- Y1 and Y2: U[4] = (0x14, 0x94), T[3] = (0x23, 0xA3), H[2] = (0x32, 0xB2). -/
theorem test_enc_1234 :
    enc spinPar 0x1234 false = ⟨0x14, 0x94 ||| 0x23, 0xA3 ||| 0x32, 0xB2 ||| 0x20⟩ ∧
    enc spinPar 0x1234 true = ⟨0x14, 0x94 ||| 0x23 ||| 0x10, 0xA3 ||| 0x32, 0xB2 ||| 0x20⟩ := by decide

/-! ## Commands, one step each -/

/-- The example of 43_facade.md R140. -/
theorem test_init : next? (exec .init (cold spinPar)) = some (warm spinPar) := by decide
/-- F11: a second INIT. -/
theorem test_init_twice : next? (exec .init (warm spinPar)) = some (warm spinPar) := by decide
/-- H1: STATUS 0x03 and TRACE [S] after acceptance; the payload is CMD_ENABLE. -/
theorem test_enable : (next? (exec .enable (warm spinPar))).map (fun t => (t.status, t.trace, t.phase, t.pl)) =
    some (0x03, [.start], .wSB, [.lit 0xC8]) := by decide
/-- F2. -/
theorem test_enable_cold : (next? (exec .enable (cold spinPar))).map (fun t => (t.status, t.trace)) = some (0x28, []) := by decide
theorem test_disable : (next? (exec .disable (warm spinPar))).map (fun t => (t.status, t.trace, t.pl)) =
    some (0x03, [.start], [.lit 0xC0]) := by decide
/-- The example of 41_display_protocol.md R102. -/
theorem test_wram : (next? (exec (.wram 0x05 2) (loaded spinPar))).map (·.pl) = some wram2 := by decide
/-- F9. -/
theorem test_wram_no_base : (next? (exec (.wram 0 0) (warm spinPar))).map (·.status) = some 0x1A := by decide
/-- F3. -/
theorem test_encode : (next? (exec (.encode 0 false) (cold spinPar))).map (fun t => (t.img.map Image.word, t.phase, t.status)) =
    some (some 0x509DAF1F, .off, 0x00) := by decide
/-- F6. -/
theorem test_encode_busy :
    (next? (exec (.encode 0 false) (inWait spinPar .wAddr [.lit 0xC8] 0))).map (fun t => (t.status, t.img)) =
    some (0x3A, none) := by decide
theorem test_draw : (next? (exec (.draw 0x1000 true) (warm spinPar))).map (fun t => (t.img.map Image.word, t.pl)) =
    some (some 0x709DBF1F, [.lit 0x44, .lit 0x03, .lit 0x1F, .lit 0xBF, .lit 0x9D, .lit 0x70]) := by decide
/-- F1. -/
theorem test_draw_cold : (next? (exec (.draw 0 false) (cold spinPar))).map (fun t => (t.status, t.img)) =
    some (0x28, none) := by decide

/-! ## Other moves, one step each -/

/-- The example of 40_bus_transport.md R83. -/
theorem test_address_byte : (next? (sequencerTurn { inWait spinPar .wSB [.lit 0xC8] 0 with evSB := true, trace := [.start] })).map
    (fun t => (t.trace, t.phase, t.evSB)) = some ([.start, .byte 0x70], .wAddr, false) := by decide
/-- H3: the first buffer byte is sent, and a byte that is not readable leaves the sequencer stuck. -/
theorem test_buffer_byte : (next? (sequencerTurn { inWait spinPar .wBtf wram2 2 with evBtf := true })).map
    (fun t => (t.trace, t.idx)) = some ([.byte 0xAA], 3) := by decide
theorem test_buffer_stuck : fault? (sequencerTurn { inWait spinPar .wBtf wram2 3 with evBtf := true, hmem := [(0x100, 0xAA)] }) =
    some (.stuckRead 0x101) := by decide
/-- H4: the last address is read, the next one is not. -/
theorem test_buffer_top :
    (next? (sequencerTurn { inWait spinPar .wBtf [.lit 0x44, .mem 0x3FF] 1 with evBtf := true, hmem := [(0x3FF, 1)] })).map (·.trace) =
      some [.byte 1] ∧
    fault? (sequencerTurn { inWait spinPar .wBtf [.lit 0x44, .mem 0x400] 1 with evBtf := true, hmem := [(0x400, 1)] }) =
      some (.stuckRead 0x400) := by decide
/-- The end of a transaction. -/
theorem test_stop : (next? (sequencerTurn { inWait spinPar .wBtf [.lit 0xC8] 1 with evBtf := true })).map
    (fun t => (t.trace, t.status, t.phase)) = some ([.stop], 0x02, .idle) := by decide
/-- T1: the first poll miss, then the timeout. -/
theorem test_poll_miss : (next? (sequencerTurn (inWait boundedPar .wSB [.lit 0xC8] 0))).map (fun t => (t.polls, t.phase)) =
    some (1, .wSB) := by decide
theorem test_timeout : (next? (sequencerTurn { inWait boundedPar .wSB [.lit 0xC8] 0 with polls := 1, trace := [.start] })).map
    (fun t => (t.status, t.trace, t.phase)) = some (0x06, [.start, .stop], .idle) := by decide
/-- H1: the hold. -/
theorem test_hold : next? (sequencerTurn (inWait spinPar .wSB [.lit 0xC8] 0)) = some (inWait spinPar .wSB [.lit 0xC8] 0) := by decide
/-- BusEnv sets the flag of the wait in progress and has no other move. -/
theorem test_bus_env : busAnswer (inWait spinPar .wAddr [.lit 0xC8] 0) = { inWait spinPar .wAddr [.lit 0xC8] 0 with evAddr := true } ∧
    busAnswer (warm spinPar) = warm spinPar := by decide
/-- R-1 and R-2. -/
theorem test_bus_reset : (busReset (cold spinPar)).cfg = .configured fixedCfg ∧ (busReset (cold spinPar)).pe = true ∧
    (busReset { warm boundedPar with evBtf := true, polls := 1 }) = warm boundedPar := by decide
/-- F4, F5, F10, F12. -/
theorem test_illegal_word :
    (next? (hostTurn (.writeCmd 0x00000000) (warm spinPar))).map (·.status) = some 0x1A ∧
    (next? (hostTurn (.writeCmd 0x00000007) (cold spinPar))).map (·.status) = some 0x18 ∧
    next? (hostTurn (.writeCmd 0x00000001) (broken spinPar)) = some (broken spinPar) ∧
    (next? (hostTurn (.writeCmd 0x00000000) (inWait spinPar .wSB [.lit 0xC8] 0))).map (·.status) = some 0x3A := by decide
/-- F7, F8. -/
theorem test_read_img_unwritten :
    (next? (hostTurn .readImg (cold spinPar))).map (fun t => (t.status, t.lastRead)) = some (0x48, some .noValue) ∧
    (next? (hostTurn .readImg (warm spinPar))).map (·.status) = some 0x4A := by decide
theorem test_read_img : (next? (hostTurn .readImg { warm spinPar with img := some errImg })).map (fun t => (t.status, t.lastRead)) =
    some (0x02, some (.img 0x00424080)) := by decide
/-- The assembler line of 30_encoding.md R65: BASE, then CMD 0x00020504. -/
theorem test_wram_line : wramLine 0x05 2 0x100 = [.host (.writeBase 0x100), .host (.writeCmd 0x00020504)] := by decide
theorem test_host_write : (next? (hostTurn (.writeMem 0x0FF 7) (loaded spinPar))).map (·.hmem) =
    some [(0x0FF, 7), (0x100, 0xAA), (0x101, 0x55)] := by decide
theorem test_host_write_outside : fault? (hostTurn (.writeMem 0x400 7) (warm spinPar)) = some (.hostWriteOutside 0x400) := by decide
theorem test_base_too_wide : refused? (hostTurn (.writeBase 0x400) (warm spinPar)) = some (.baseTooWide 0x400) := by decide
theorem test_power_on : powerOnReset (broken spinPar) = cold spinPar := by decide
/-- The first instruction after reset, as the host places it. -/
theorem test_fetch_word : (next? (step ((cold spinPar).withFetchWord 32 0x00000001))).map (·.status) = some 0x02 := by decide

/-! ## Witnesses: the hypotheses of each statement are met -/

/-- A state whose next moves are given. -/
def withTurns (ts : List Move) (s : State) : State := { s with turns := ts }

/-- A host write of a command. -/
def cmd (i : Instr) : Move := .host (.writeCmd (encode i))

theorem witness_DecodeOfEncode : (Instr.wram 0xFF 0xFF).wellFormed = true ∧ (Instr.draw 0xFFFF true).wellFormed = true := by
  decide

theorem witness_EncodeOfDecode : decode 0x00FFFF04 = .ok (.wram 0xFF 0xFF) ∧ decode 0xFFFF0015 = .ok (.encode 0xFFFF true) := by
  decide

theorem witness_OperandAssembly : decode 0x00020504 = .ok (.wram 5 2) ∧ decode 0x20000015 = .ok (.encode 0x2000 true) ∧
    decode 0x10000006 = .ok (.draw 0x1000 false) ∧ (loaded spinPar).phase = .idle ∧ (loaded spinPar).busy = false ∧
    (loaded spinPar).base = some 0x100 ∧ 0 < (1 : Byte).toNat ∧ 254 < (255 : Byte).toNat := by decide

/-- Words of each bullet of 30_encoding.md R63, at the ends of its range. -/
theorem witness_IllegalWordsFault :
    ((0x10 : CmdWord).extractLsb' 0 4).toNat = 0 ∧ 7 ≤ ((0x7 : CmdWord).extractLsb' 0 4).toNat ∧
    7 ≤ ((0xF : CmdWord).extractLsb' 0 4).toNat ∧ (0x80000003 : CmdWord).extractLsb' 4 28 ≠ 0 ∧
    (0x11 : CmdWord).extractLsb' 4 28 ≠ 0 ∧ (0x01000004 : CmdWord).extractLsb' 24 8 ≠ 0 ∧ (0x84 : CmdWord).extractLsb' 4 4 ≠ 0 ∧
    (0x25 : CmdWord).extractLsb' 5 11 ≠ 0 ∧ (0x8006 : CmdWord).extractLsb' 5 11 ≠ 0 ∧
    (withTurns [.host (.writeCmd 0x7)] (warm spinPar)).turns = [.host (.writeCmd 0x7)] ∧
    (warm spinPar).phase ≠ .fault ∧ (warm spinPar).busy = false := by decide

theorem witness_StepRunsDecodedCommand :
    (withTurns [cmd (.wram 5 2)] (loaded spinPar)).turns = [.host (.writeCmd 0x00020504)] ∧
    decode 0x00020504 = .ok (.wram 5 2) ∧ (Instr.wram 5 2).wellFormed = true ∧ decodeTableWord 32 0x16 = some (.draw 0 true) ∧
    (withTurns [.host .readStatus] (warm spinPar)).turns = .host .readStatus :: [] ∧
    (withTurns [.sequencer] (warm spinPar)).turns = .sequencer :: [] ∧ (withTurns [.busEnv] (warm spinPar)).turns = .busEnv :: [] ∧
    (withTurns [.powerOn] (warm spinPar)).turns = .powerOn :: [] ∧ (warm spinPar).turns = [] := by decide

theorem witness_StopsByName :
    fault? (step { inWait spinPar .wBtf [.lit 0x44, .mem 0x400] 1 with evBtf := true }) = some (.stuckRead 0x400) ∧
    fault? (step { inWait spinPar .wBtf [.lit 0x44, .mem 0x3FF] 1 with evBtf := true, turns := [.sequencer] }) = some (.stuckRead 0x3FF) ∧
    fault? (step (withTurns [.host (.writeMem 0x400 0)] (warm spinPar))) = some (.hostWriteOutside 0x400) ∧
    refused? (step (withTurns [.host (.writeBase 0x400)] (warm spinPar))) = some (.baseTooWide 0x400) := by decide

theorem witness_CommandAcceptance :
    (broken spinPar).phase = .fault ∧
    ((inWait spinPar .wSB [.lit 0xC8] 0).phase ≠ .fault ∧ (inWait spinPar .wSB [.lit 0xC8] 0).busy = true) ∧
    ((warm spinPar).phase ≠ .fault ∧ (warm spinPar).busy = false ∧ (warm spinPar).base = none) ∧
    decode 0 = .error (.reservedOpcode 0) ∧ decode 0x00020504 = .ok (.wram 5 2) ∧ decode 0x1 = .ok .init ∧
    decode 0x5 = .ok (.encode 0 false) ∧ txnPayload (loaded spinPar) (.wram 5 2) = some wram2 ∧
    txnPayload (cold spinPar) .enable = some [.lit 0xC8] ∧ (cold spinPar).phase = .off ∧ (loaded spinPar).phase ≠ .off := by decide

theorem witness_FaultIsStickyAndQuiescent :
    (broken spinPar).phase = .fault ∧ (broken spinPar).img = none ∧ ({ broken spinPar with img := some errImg } : State).phase = .fault ∧
    next? (step (withTurns [cmd .init] (broken spinPar))) = some (broken spinPar) ∧
    (withTurns [cmd .init] (broken spinPar)).turns.head? ≠ some .powerOn ∧
    (withTurns [.powerOn] (broken spinPar)).turns = .powerOn :: [] := by decide

theorem witness_TransactionTraps :
    (cold spinPar).phase = .off ∧ (cold spinPar).busy = false ∧ ({ cold spinPar with base := some 0x100 } : State).base = some 0x100 ∧
    (warm spinPar).phase ≠ .fault ∧ (warm spinPar).busy = false ∧ (warm spinPar).base = none ∧ (cold spinPar).base = none := by decide

theorem witness_BusyWriteFaults :
    (inWait spinPar .wBtf wram2 2).phase ≠ .fault ∧ (inWait spinPar .wBtf wram2 2).busy = true := by decide

theorem witness_InitResult : (cold spinPar).phase ≠ .fault ∧ (cold spinPar).busy = false ∧
    next? (exec .init (cold spinPar)) = some (warm spinPar) ∧ (warm spinPar).phase ≠ .fault ∧ (warm spinPar).busy = false ∧
    (inWait spinPar .wSB wram2 0).phase ≠ .fault ∧ (inWait spinPar .wSB wram2 0).busy = true := by decide

theorem witness_DisplayCommandsStart : (loaded spinPar).phase = .idle ∧ (loaded spinPar).busy = false ∧
    (loaded spinPar).base = some 0x100 := by decide

theorem witness_EncodeResult : (cold spinPar).phase ≠ .fault ∧ (cold spinPar).busy = false ∧ (warm spinPar).phase ≠ .fault ∧
    (warm spinPar).busy = false ∧ (warm spinPar).par.digit0 = true ∧
    (inWait spinPar .wSB wram2 0).phase ≠ .fault ∧ (inWait spinPar .wSB wram2 0).busy = true := by decide

theorem witness_DrawStart : (warm spinPar).phase = .idle ∧ (warm spinPar).busy = false := by decide

/-- The frames speak of the cases that run and of those that fault. -/
theorem witness_TransactionFrame :
    ∀ i ∈ [Instr.enable, .disable, .wram 5 2, .draw 0 false],
      (next? (exec i (loaded spinPar))).isSome = true ∧ (next? (exec i (cold spinPar))).isSome = true := by decide

theorem witness_EncodeFrame : (next? (exec (.encode 0 true) (loaded spinPar))).map (·.phase) = some .idle ∧
    (next? (exec (.encode 0 true) (inWait spinPar .wSB [.lit 0xC8] 0))).map (·.phase) = some .fault := by decide

theorem witness_InitFrame : (next? (exec .init (cold spinPar))).map (·.phase) = some .idle ∧
    (next? (exec .init (inWait spinPar .wSB [.lit 0xC8] 0))).map (·.phase) = some .fault := by decide

theorem witness_SequencerFrame :
    (next? (sequencerTurn { inWait spinPar .wBtf wram2 2 with evBtf := true })).map (·.idx) = some 3 ∧
    (next? (sequencerTurn (inWait boundedPar .wSB [.lit 0xC8] 0))).map (·.polls) = some 1 := by decide

theorem witness_AddressByte : ({ inWait spinPar .wSB [.lit 0xC8] 0 with evSB := true } : State).phase = .wSB ∧
    ({ inWait spinPar .wSB [.lit 0xC8] 0 with evSB := true } : State).evSB = true := by decide

/-- One state for each row of the table of 40_bus_transport.md R92; the bounded rows at POLLS + 1 < N and POLLS + 1 = N. -/
theorem witness_SequencerStepTable :
    ((loaded spinPar).phase = .idle ∧ (loaded spinPar).busy = false ∧ txnPayload (loaded spinPar) (.wram 5 2) = some wram2) ∧
    (let s := { inWait spinPar .wSB wram2 0 with evSB := true };
      s.phase = .wSB ∧ s.evSB = true) ∧
    (let s := { inWait spinPar .wAddr wram2 0 with evAddr := true };
      s.phase = .wAddr ∧ s.evAddr = true ∧ s.pl[0]? = some (.lit 0x44) ∧ s.fetch (.lit 0x44) = some 0x44) ∧
    (let s := { inWait spinPar .wBtf wram2 3 with evBtf := true };
      s.phase = .wBtf ∧ s.evBtf = true ∧ s.pl[s.idx]? = some (.mem 0x101) ∧ s.fetch (.mem 0x101) = some 0x55) ∧
    (let s := { inWait spinPar .wBtf wram2 4 with evBtf := true };
      s.phase = .wBtf ∧ s.evBtf = true ∧ s.idx = s.pl.length) ∧
    (let s := inWait boundedPar .wAddr wram2 0;
      s.phase.isWait = true ∧ s.awaited = false ∧ s.par.waitPolicy = .bounded 2 ∧ s.polls + 1 < 2) ∧
    (let s := { inWait boundedPar .wBtf wram2 1 with polls := 1 };
      s.phase.isWait = true ∧ s.awaited = false ∧ s.par.waitPolicy = .bounded 2 ∧ s.polls + 1 = 2) ∧
    (let s := inWait spinPar .wSB wram2 0;
      s.phase.isWait = true ∧ s.awaited = false ∧ s.par.waitPolicy = .spinForever) ∧
    ((cold spinPar).phase = .off ∧ (warm spinPar).phase = .idle ∧ (broken spinPar).phase = .fault) := by decide

theorem witness_SequencerStepTable_payload : (inWait spinPar .wAddr wram2 0).phase = .wAddr ∧ payloadOk (inWait spinPar .wAddr wram2 0).pl :=
  ⟨rfl, ⟨0x44, [.lit 0x05, .mem 0x100, .mem 0x101], rfl⟩, by decide⟩

theorem witness_BusEnvMoves : (inWait spinPar .wSB wram2 0).phase = .wSB ∧ (inWait spinPar .wAddr wram2 0).phase = .wAddr ∧
    (inWait spinPar .wBtf wram2 1).phase = .wBtf ∧ (warm spinPar).phase.isWait = false ∧
    ({ inWait spinPar .wBtf wram2 1 with evBtf := true } : State).awaited = true := by decide

theorem witness_SpinForeverHolds :
    (let s := inWait spinPar .wAddr wram2 0;
      s.par.waitPolicy = .spinForever ∧ s.phase.isWait = true ∧ s.awaited = false ∧ s.turns = []) ∧
    (let s := withTurns [.sequencer, .sequencer, .busEnv] (inWait spinPar .wAddr wram2 0);
      s.par.waitPolicy = .spinForever ∧ s.phase.isWait = true ∧ s.awaited = false ∧
        s.turns = List.replicate 2 .sequencer ++ [.busEnv]) := by decide

theorem witness_BoundedWaitTimesOut :
    let s := inWait boundedPar .wSB [.lit 0xC8] 0
    s.par.waitPolicy = .bounded 2 ∧ s.phase.isWait = true ∧ s.awaited = false ∧ s.polls = 0 ∧ s.turns = [] ∧ 1 < 2 ∧ 1 ≤ 2 := by decide

theorem witness_BufferAddressesDoNotWrap :
    (let s := { loaded spinPar with base := some 0x3FF };
      s.phase = .idle ∧ s.busy = false ∧ s.base = some 0x3FF ∧ 254 < (255 : Byte).toNat) ∧
    (let s := { inWait spinPar .wBtf [.lit 0x44, .lit 0, .mem 0x3FF, .mem 0x400] 3 with evBtf := true };
      s.phase = .wBtf ∧ s.evBtf = true ∧ s.pl[s.idx]? = some (.mem (0x3FF + 1)) ∧ 2 ^ s.par.addrWidth ≤ 0x3FF + 1) := by decide

theorem witness_BufferReadOrStuck :
    let s := { inWait spinPar .wBtf [.lit 0x44, .mem 0x3FF, .mem 0x400] 1 with evBtf := true, hmem := [(0x3FF, 9)] }
    let u := { inWait spinPar .wBtf [.lit 0x44, .mem 0x3FF, .mem 0x400] 2 with evBtf := true, hmem := [(0x3FF, 9)] }
    let n := { inWait spinPar .wBtf [.lit 0x44, .mem 0x3FE] 1 with evBtf := true, hmem := [(0x3FF, 9)] }
    (s.phase = .wBtf ∧ s.evBtf = true ∧ s.pl[s.idx]? = some (.mem 0x3FF) ∧ 0x3FF < 2 ^ s.par.addrWidth ∧ s.readByte 0x3FF = some 9) ∧
    (u.phase = .wBtf ∧ u.evBtf = true ∧ u.pl[u.idx]? = some (.mem 0x400) ∧ 2 ^ u.par.addrWidth ≤ 0x400) ∧
    (n.phase = .wBtf ∧ n.evBtf = true ∧ n.pl[n.idx]? = some (.mem 0x3FE) ∧ n.readByte 0x3FE = none) := by decide

theorem witness_TransactionRunsToCompletion :
    let s := withTurns (answered 6 ++ [.host .readStatus]) (inWait spinPar .wSB wram2 0)
    s.phase = .wSB ∧ s.evSB = false ∧ s.evAddr = false ∧ s.evBtf = false ∧ s.pl ≠ [] ∧
      s.fetchAll s.pl = some [0x44, 0x05, 0xAA, 0x55] ∧
      s.turns = answered (([0x44, 0x05, 0xAA, 0x55] : List Byte).length + 2) ++ [.host .readStatus] := by decide

theorem witness_EnableDisableOnTheWire : (warm spinPar).phase = .idle ∧ (warm spinPar).busy = false ∧
    (withTurns (cmd .enable :: answered 3) (warm spinPar)).turns = .host (.writeCmd (encode .enable)) :: answered 3 ++ [] ∧
    (withTurns (cmd .disable :: answered 3) (warm spinPar)).turns = .host (.writeCmd (encode .disable)) :: answered 3 ++ [] := by decide

theorem witness_NoCoalescing :
    let s := withTurns (cmd (.wram 5 2) :: answered 6 ++ (cmd .enable :: answered 3)) (loaded spinPar)
    s.phase = .idle ∧ s.busy = false ∧ txnPayload s (.wram 5 2) = some wram2 ∧ s.fetchAll wram2 = some [0x44, 0x05, 0xAA, 0x55] ∧
      txnPayload s .enable = some [.lit 0xC8] ∧ s.fetchAll [.lit 0xC8] = some [0xC8] ∧
      s.turns = .host (.writeCmd (encode (.wram 5 2))) :: answered (([0x44, 0x05, 0xAA, 0x55] : List Byte).length + 2) ++
        (.host (.writeCmd (encode .enable)) :: answered (([0xC8] : List Byte).length + 2) ++ []) := by decide

/-- The buffer ends at the last host address. -/
theorem witness_WramOnTheWire :
    let s := { loaded spinPar with base := some 0x3FE, hmem := [(0x3FE, 0xAA), (0x3FF, 0x55)], turns := cmd (.wram 5 2) :: answered 6 }
    s.phase = .idle ∧ s.busy = false ∧ s.base = some 0x3FE ∧ ([0xAA, 0x55] : List Byte).length = (2 : Byte).toNat ∧
      0x3FE + (2 : Byte).toNat ≤ 2 ^ s.par.addrWidth ∧
      (∀ k, k < (2 : Byte).toNat → s.readByte (0x3FE + k) = ([0xAA, 0x55] : List Byte)[k]?) ∧
      s.turns = .host (.writeCmd (encode (.wram 5 2))) :: answered ((2 : Byte).toNat + 4) ++ [] := by decide

theorem witness_EmptyRamWrite :
    let s := withTurns (cmd (.wram 5 0) :: answered 4) (loaded spinPar)
    s.phase = .idle ∧ s.busy = false ∧ s.base = some 0x100 ∧ s.turns = .host (.writeCmd (encode (.wram 5 0))) :: answered 4 ++ [] ∧
      (warm spinPar).phase = .idle ∧ (warm spinPar).busy = false ∧ (warm spinPar).base = none := by decide

theorem witness_DrawOnTheWire :
    let s := withTurns (cmd (.draw 0x2000 true) :: answered 8) (warm spinPar)
    s.phase = .idle ∧ s.busy = false ∧ s.turns = .host (.writeCmd (encode (.draw 0x2000 true))) :: answered 8 ++ [] := by decide

theorem witness_DrawEqualsWram :
    let s := { loaded spinPar with base := some 0x3FC, hmem := [(0x3FC, 0x1F), (0x3FD, 0xAF), (0x3FE, 0x9D), (0x3FF, 0x50)] }
    s.phase = .idle ∧ s.busy = false ∧ s.base = some 0x3FC ∧ 0x3FC + 4 ≤ 2 ^ s.par.addrWidth ∧
      (∀ k, k < 4 → s.readByte (0x3FC + k) = (enc s.par 0 false).bytes[k]?) := by decide

theorem witness_ConfiguredAfterAcceptance : (loaded spinPar).phase = .idle ∧ (loaded spinPar).busy = false ∧
    txnPayload (loaded spinPar) (.wram 5 2) = some wram2 ∧ txnPayload (loaded spinPar) .enable = some [.lit 0xC8] := by decide

theorem witness_PayloadShapes : (loaded spinPar).phase = .idle ∧ (loaded spinPar).busy = false ∧
    (∀ i ∈ [Instr.enable, .disable, .wram 5 0, .wram 5 2, .draw 0 false],
      (txnPayload (loaded spinPar) i).isSome = true ∧ (next? (exec i (loaded spinPar))).isSome = true) := by decide

theorem witness_ValidityTest : invalid 0x1999 = false := by decide

theorem witness_InvalidGivesErrorImage : invalid 0x000A = true ∧ 2 ≤ ((0x2000 : Value).extractLsb' 12 4).toNat := by decide

theorem witness_EncoderClosedForm : invalid 0x1234 = false ∧ invalid 0x1FFF = true ∧
    (∀ x : Image, (fun y : Image => { y with b1 := y.b1 ||| 0x10 }) x = { x with b1 := x.b1 ||| 0x10 }) ∧
    (∀ x : Image, (fun y : Image => { y with b3 := y.b3 ||| 0x20 }) x = { x with b3 := x.b3 ||| 0x20 }) :=
  ⟨by decide, by decide, fun _ => rfl, fun _ => rfl⟩

theorem witness_FractionSetsOneBit : invalid 0x0999 = false := by decide

theorem witness_ThousandsMarker : invalid 0x1999 = false ∧ (0x1999 : Value).extractLsb' 12 4 = 1 ∧ invalid 0x0999 = false ∧
    (0x0999 : Value).extractLsb' 12 4 = 0 := by decide

/-- Two values that agree in one digit each, for the four clauses. -/
theorem witness_ByteIndependence : invalid 0x1234 = false ∧ invalid 0x0564 = false ∧ units 0x1234 = units 0x0564 ∧
    invalid 0x0534 = false ∧ tens 0x1234 = tens 0x0534 ∧ units 0x1234 = units 0x0534 ∧
    invalid 0x0239 = false ∧ tens 0x1234 = tens 0x0239 ∧ hundreds 0x1234 = hundreds 0x0239 ∧
    invalid 0x1256 = false ∧ hundreds 0x1234 = hundreds 0x1256 ∧ thousands 0x1234 = thousands 0x1256 := by decide

theorem witness_DigitZeroImages : spinPar.digit0 = true := by decide

theorem witness_BaseAndStatusPorts : 0x3FF < 2 ^ (warm spinPar).par.addrWidth := by decide

theorem witness_ImgReads : (cold spinPar).img = none ∧ (cold spinPar).phase ≠ .fault ∧
    ({ warm spinPar with img := some errImg } : State).img = some errImg := by decide

theorem witness_ImgWriters :
    (next? (step (withTurns [cmd (.encode 0 true)] (warm spinPar)))).map (fun t => decide (t.img ≠ (warm spinPar).img)) = some true ∧
    (next? (step (withTurns [.powerOn] { warm spinPar with img := some errImg }))).map (·.img) = some none := by decide

/-- A step that changes each of the fields, for each of the moves the statement allows. -/
theorem witness_WhoWritesWhat :
    (next? (step (withTurns [cmd .init] (cold spinPar)))).map (fun t => (t.ready, t.clkEn, t.pinsCfg, t.pe, t.cfg)) =
      some (true, true, true, true, .configured fixedCfg) ∧
    (cold spinPar).ready = false ∧ (cold spinPar).clkEn = false ∧ (cold spinPar).pinsCfg = false ∧
    (next? (step (withTurns [.powerOn] (warm spinPar)))).map (fun t => (t.ready, t.clkEn, t.pinsCfg, t.pe, t.cfg)) =
      some (false, false, false, false, .unconfigured) ∧
    (next? (step (withTurns [cmd .enable] { warm spinPar with pe := false, cfg := .unconfigured }))).map (fun t => (t.pe, t.cfg)) =
      some (true, .configured fixedCfg) ∧
    (next? (step (withTurns [.host (.writeBase 0x3FF)] (loaded spinPar)))).map (·.base) = some (some 0x3FF) ∧
    (next? (step (withTurns [.powerOn] (loaded spinPar)))).map (·.base) = some none ∧
    (next? (step (withTurns [.host (.writeMem 0x3FF 1)] (loaded spinPar)))).map (·.readByte 0x3FF) = some (some 1) ∧
    (loaded spinPar).readByte 0x3FF = none := by decide

/-- The premises of its last two clauses. -/
theorem witness_WhoWritesWhat_accepted :
    (withTurns [cmd .init] (cold spinPar)).turns.head? = some (.host (.writeCmd 1)) ∧ decode 1 = .ok .init ∧
    (cold spinPar).phase ≠ .fault ∧ (cold spinPar).busy = false ∧
    (withTurns [cmd (.wram 5 2)] (loaded spinPar)).turns.head? = some (.host (.writeCmd 0x00020504)) ∧
    decode 0x00020504 = .ok (.wram 5 2) ∧ txnPayload (withTurns [cmd (.wram 5 2)] (loaded spinPar)) (.wram 5 2) = some wram2 ∧
    (loaded spinPar).phase ≠ .fault ∧ (loaded spinPar).phase ≠ .off ∧ (loaded spinPar).busy = false ∧
    (next? (step (withTurns [cmd (.wram 5 2)] (loaded spinPar)))).isSome = true := by decide

theorem witness_HostMemoryReadAfterWrite : 0x3FF < 2 ^ (loaded spinPar).par.addrWidth := by decide

theorem witness_TraceIsAppendOnly : (next? (step (withTurns [cmd .enable] (warm spinPar)))).map (·.trace) = some [.start] ∧
    (withTurns [cmd .enable] (warm spinPar)).turns.head? ≠ some .powerOn := by decide

theorem witness_PowerOnResetValues : (withTurns [.powerOn] (broken spinPar)).turns = .powerOn :: [] ∧
    next? (step (withTurns [.powerOn] (broken spinPar))) = some (cold spinPar) := by decide

/-- A WRITE_RAM in progress after a whole ENABLE_DEVICE, its third payload byte next, under Bounded(2). -/
def midWrite : State :=
  { inWait boundedPar .wBtf wram2 2 with
    evBtf := true, polls := 1
    trace := fullFrame boundedPar [0xC8] ++ [.start, .byte 0x70, .byte 0x44, .byte 0x05] }

theorem witness_StepKeepsInvariant : midWrite.Inv ∧ (next? (step midWrite)).map (·.idx) = some 3 := by
  refine ⟨?_, by decide⟩
  constructor
  case base_lt => intro b h; cases h; decide
  case mem_lt =>
    intro a b h
    have h2 : (a, b) = ((0x100 : Nat), (0xAA : Byte)) ∨ (a, b) = ((0x101 : Nat), (0x55 : Byte)) := by
      simpa [midWrite, inWait, loaded] using h
    rcases h2 with h2 | h2 <;> cases h2 <;> decide
  case payload => exact fun _ => ⟨⟨0x44, [.lit 0x05, .mem 0x100, .mem 0x101], rfl⟩, by decide⟩
  case polls_lt => intro n h; cases h; decide
  all_goals decide

theorem witness_StatusAgreesWithPhase : midWrite.statusAgrees ∧ (next? (step midWrite)).isSome = true := by
  refine ⟨⟨?_, ?_⟩, ?_⟩ <;> decide

theorem witness_StepKeepsTraceShape : midWrite.TraceShape ∧ (next? (step midWrite)).isSome = true := by
  refine ⟨⟨[fullFrame boundedPar [0xC8]], [.start, .byte 0x70, .byte 0x44, .byte 0x05], ?_, ?_, rfl⟩, by decide⟩
  · intro l hl
    rw [List.mem_singleton.mp hl]
    exact .inl ⟨[0xC8], by decide, rfl⟩
  · refine ⟨[0x44, 0x05], rfl, ?_, by decide⟩
    intro k b hk hpl
    have h2 : k = 0 ∨ k = 1 := by simp at hk; omega
    rcases h2 with rfl | rfl <;> cases hpl <;> rfl

end Sys2Proof.Tests
end

section
/-! Power-on reset (10_state.md R33, 70_reset_and_hazards.md R180). -/

namespace Sys2Proof.Machine

/-- The step whose move is the power-on event. -/
theorem step_powerOn {s : State} {ts : List Move} (h : s.turns = .powerOn :: ts) :
    step s = .next (powerOnReset { s with turns := ts }) := by
  simp [step, h, makeMove]

/-- The reset state is a fixed point of power-on reset, so that a fact about the result of power-on reset holds of it too. -/
theorem powerOnReset_reset : powerOnReset State.reset = State.reset := rfl

/-- STATUS after power-on reset, all its bits and the fault code being 0 (10_state.md R22). -/
@[simp] theorem powerOnReset_status (s : State) : (powerOnReset s).status = 0x00 := by
  simp [State.status, State.reset, FaultCode.code, bit]

/-- Settles O55: the reset state and the state after a power-on move are both results of `powerOnReset`, whose fields are those of
the reset state. -/
theorem powerOnResetValues : Obligations.PowerOnResetValues := by
  intro s t h
  have ht : ∃ r, t = powerOnReset r := by
    rcases h with rfl | ⟨ts, hturns, hstep⟩
    · exact ⟨State.reset, powerOnReset_reset.symm⟩
    · rw [step_powerOn hturns] at hstep
      exact ⟨_, (Host.Outcome.next.inj hstep).symm⟩
  obtain ⟨r, rfl⟩ := ht
  simp [State.reset]

end Sys2Proof.Machine
end

section
/-! The encoding of host commands (30_encoding.md Part A). -/

namespace Sys2Proof

/-! ## Rows of the opcode map -/

@[simp] theorem assemble_opcode (x : Opcode) (w : CmdWord) : (x.assemble w).opcode = x := by cases x <;> rfl

/-- The decoder answers a command exactly where the word hits the command's row and its operands are those of the word. -/
theorem decode_eq_ok_iff (w : CmdWord) (i : Instr) :
    decode w = .ok i ↔ i.opcode.hits w = true ∧ i.opcode.assemble w = i := by
  constructor
  · intro h
    obtain ⟨x, hx, hd⟩ | ⟨_, hd⟩ := decode_cases w
    · obtain rfl : x.assemble w = i := Except.ok.inj (hd.symm.trans h)
      rw [assemble_opcode]
      exact ⟨hx, rfl⟩
    · rw [hd] at h
      cases h
  · rintro ⟨hx, ha⟩
    rw [decode_of_hits _ w hx, ha]

theorem decode_eq_init_iff (w : CmdWord) : decode w = .ok .init ↔ Opcode.init.hits w = true := by
  simp [decode_eq_ok_iff, Instr.opcode, Opcode.assemble]

theorem decode_eq_enable_iff (w : CmdWord) : decode w = .ok .enable ↔ Opcode.enable.hits w = true := by
  simp [decode_eq_ok_iff, Instr.opcode, Opcode.assemble]

theorem decode_eq_disable_iff (w : CmdWord) : decode w = .ok .disable ↔ Opcode.disable.hits w = true := by
  simp [decode_eq_ok_iff, Instr.opcode, Opcode.assemble]

theorem decode_eq_wram_iff (w : CmdWord) (o c : Byte) :
    decode w = .ok (.wram o c) ↔ Opcode.wram.hits w = true ∧ originField w = o ∧ countField w = c := by
  simp [decode_eq_ok_iff, Instr.opcode, Opcode.assemble]

theorem decode_eq_encode_iff (w : CmdWord) (v : Value) (f : Bool) :
    decode w = .ok (.encode v f) ↔ Opcode.encode.hits w = true ∧ valueField w = v ∧ fField w = f := by
  simp [decode_eq_ok_iff, Instr.opcode, Opcode.assemble]

theorem decode_eq_draw_iff (w : CmdWord) (v : Value) (f : Bool) :
    decode w = .ok (.draw v f) ↔ Opcode.draw.hits w = true ∧ valueField w = v ∧ fField w = f := by
  simp [decode_eq_ok_iff, Instr.opcode, Opcode.assemble]

theorem hits_iff (x : Opcode) (w : CmdWord) : x.hits w = true ↔ w &&& x.mask = x.pattern := beq_iff_eq

/-- At most one row of the opcode map matches a word (30_encoding.md R62). -/
theorem countP_hits_le_one (w : CmdWord) : Opcode.rows.countP (fun x => x.hits w) ≤ 1 := by
  by_cases h : ∃ x : Opcode, x.hits w = true
  · obtain ⟨x, hx⟩ := h
    calc Opcode.rows.countP (fun y => y.hits w)
        ≤ Opcode.rows.count x :=
          List.countP_mono_left fun y _ hy => beq_iff_eq.mpr (hits_unique y x w hy hx)
      _ ≤ 1 := List.nodup_iff_count_le_one.mp (by decide) x
  · rw [List.countP_eq_zero.mpr fun y _ hy => h ⟨y, hy⟩]
    exact Nat.zero_le 1

/-- Settles O3: the decoder answers the row a word hits, and a word hits one row at most. -/
theorem decodesExactlyOnMatch : Obligations.DecodesExactlyOnMatch := by
  intro w
  refine ⟨?_, ?_, ?_, ?_, ?_, ?_, countP_hits_le_one w⟩
  · exact (decode_eq_init_iff w).trans (hits_iff .init w)
  · exact (decode_eq_enable_iff w).trans (hits_iff .enable w)
  · exact (decode_eq_disable_iff w).trans (hits_iff .disable w)
  · simpa [decode_eq_wram_iff, Opcode.mask, Opcode.pattern] using hits_iff .wram w
  · simpa [decode_eq_encode_iff, Opcode.mask, Opcode.pattern] using hits_iff .encode w
  · simpa [decode_eq_draw_iff, Opcode.mask, Opcode.pattern] using hits_iff .draw w

/-! ## Reserved fields -/

/-- Two words agree on a field exactly when they agree on its high and on its low part. -/
theorem extractLsb'_eq_iff_parts (x y : CmdWord) (start hi lo : Nat) :
    x.extractLsb' start (hi + lo) = y.extractLsb' start (hi + lo) ↔
      x.extractLsb' (start + lo) hi = y.extractLsb' (start + lo) hi ∧ x.extractLsb' start lo = y.extractLsb' start lo := by
  simp only [← BitVec.extractLsb'_append_extractLsb'_eq_extractLsb' rfl]
  constructor
  · intro h
    constructor
    · simpa only [BitVec.extractLsb'_append_eq_left] using congrArg (fun z => z.extractLsb' lo hi) h
    · simpa only [BitVec.extractLsb'_append_eq_right] using congrArg (fun z => z.extractLsb' 0 lo) h
  · rintro ⟨hhi, hlo⟩
    rw [hhi, hlo]

/-- Two words are equal exactly when they agree on the 28 bits above OP and on OP. -/
theorem eq_iff_opField (x y : CmdWord) : x = y ↔ x.extractLsb' 4 28 = y.extractLsb' 4 28 ∧ opField x = opField y := by
  simpa [opField] using extractLsb'_eq_iff_parts x y 0 28 4

/-- The mask of format F0 keeps OP and the RSV field [31:4]. -/
theorem and_maskF0_eq_iff (w p : CmdWord) (hp : p.extractLsb' 4 28 = 0) :
    w &&& 0xFFFFFFFF = p ↔ opField w = opField p ∧ w.extractLsb' 4 28 = 0 := by
  rw [show w &&& 0xFFFFFFFF = w from BitVec.and_allOnes, eq_iff_opField, hp, and_comm]

/-- Every mask of the opcode map keeps OP (30_encoding.md R62). -/
theorem opField_and (w m : CmdWord) (hm : opField m = BitVec.allOnes 4) : opField (w &&& m) = opField w := by
  rw [opField, BitVec.extractLsb'_and, ← opField, ← opField, hm, BitVec.and_allOnes]

/-- The mask of format FW keeps OP and the RSV fields [31:24] and [7:4]. -/
theorem and_maskFW_eq_iff (w p : CmdWord) (hp : p.extractLsb' 4 28 = 0) :
    w &&& 0xFF0000FF = p ↔ opField w = opField p ∧ w.extractLsb' 24 8 = 0 ∧ w.extractLsb' 4 4 = 0 := by
  have hupper : (w &&& 0xFF0000FF).extractLsb' 4 28 = 0 ↔ w.extractLsb' 24 8 = 0 ∧ w.extractLsb' 4 4 = 0 := by
    have hRsvHi : (w &&& 0xFF0000FF).extractLsb' 24 8 = w.extractLsb' 24 8 :=
      BitVec.extractLsb'_and.trans BitVec.and_allOnes
    have hOperands : (w &&& 0xFF0000FF).extractLsb' 8 16 = 0 := BitVec.extractLsb'_and.trans BitVec.and_zero
    have hRsvLo : (w &&& 0xFF0000FF).extractLsb' 4 4 = w.extractLsb' 4 4 :=
      BitVec.extractLsb'_and.trans BitVec.and_allOnes
    rw [show (0 : BitVec 28) = (0 : CmdWord).extractLsb' 4 28 from rfl, extractLsb'_eq_iff_parts _ 0 4 8 20,
      extractLsb'_eq_iff_parts _ 0 4 16 4, hRsvHi, hOperands, hRsvLo]
    simp
  rw [eq_iff_opField, hp, hupper, opField_and w _ rfl, and_comm]

/-- The mask of format FV keeps OP and the RSV field [15:5]. -/
theorem and_maskFV_eq_iff (w p : CmdWord) (hp : p.extractLsb' 4 28 = 0) :
    w &&& 0x0000FFEF = p ↔ opField w = opField p ∧ w.extractLsb' 5 11 = 0 := by
  have hupper : (w &&& 0x0000FFEF).extractLsb' 4 28 = 0 ↔ w.extractLsb' 5 11 = 0 := by
    have hValue : (w &&& 0x0000FFEF).extractLsb' 16 16 = 0 := BitVec.extractLsb'_and.trans BitVec.and_zero
    have hRsv : (w &&& 0x0000FFEF).extractLsb' 5 11 = w.extractLsb' 5 11 :=
      BitVec.extractLsb'_and.trans BitVec.and_allOnes
    have hF : (w &&& 0x0000FFEF).extractLsb' 4 1 = 0 := BitVec.extractLsb'_and.trans BitVec.and_zero
    rw [show (0 : BitVec 28) = (0 : CmdWord).extractLsb' 4 28 from rfl, extractLsb'_eq_iff_parts _ 0 4 16 12,
      extractLsb'_eq_iff_parts _ 0 4 11 1, hValue, hRsv, hF]
    simp
  rw [eq_iff_opField, hp, hupper, opField_and w _ rfl, and_comm]

/-- The RSV fields of a row's format are zero (30_encoding.md R60). -/
def Opcode.reservedZero (x : Opcode) (w : CmdWord) : Prop :=
  match x with
  | .init => w.extractLsb' 4 28 = 0
  | .enable => w.extractLsb' 4 28 = 0
  | .disable => w.extractLsb' 4 28 = 0
  | .wram => w.extractLsb' 24 8 = 0 ∧ w.extractLsb' 4 4 = 0
  | .encode => w.extractLsb' 5 11 = 0
  | .draw => w.extractLsb' 5 11 = 0

/-- A word hits a row exactly when its OP is the row's and the RSV fields of the row's format are zero. -/
theorem hits_iff_fields (x : Opcode) (w : CmdWord) :
    x.hits w = true ↔ opField w = opField x.pattern ∧ x.reservedZero w := by
  rw [hits_iff]
  cases x with
  | init => exact and_maskF0_eq_iff w _ rfl
  | enable => exact and_maskF0_eq_iff w _ rfl
  | disable => exact and_maskF0_eq_iff w _ rfl
  | wram => exact and_maskFW_eq_iff w _ rfl
  | encode => exact and_maskFV_eq_iff w _ rfl
  | draw => exact and_maskFV_eq_iff w _ rfl

/-- The words of 30_encoding.md R63: OP is reserved, or an RSV field of its format is nonzero. -/
def IllegalFields (w : CmdWord) : Prop :=
  let op := (opField w).toNat
  op = 0 ∨ 7 ≤ op ∨ ((op = 1 ∨ op = 2 ∨ op = 3) ∧ w.extractLsb' 4 28 ≠ 0) ∨
    (op = 4 ∧ (w.extractLsb' 24 8 ≠ 0 ∨ w.extractLsb' 4 4 ≠ 0)) ∨ ((op = 5 ∨ op = 6) ∧ w.extractLsb' 5 11 ≠ 0)

/-- A word is illegal exactly when it matches no row (30_encoding.md R63). -/
theorem illegalFields_iff_no_row (w : CmdWord) : IllegalFields w ↔ ∀ x : Opcode, x.hits w = false := by
  have hrow : ∀ x : Opcode, x.hits w = false ↔ ((opField w).toNat = (opField x.pattern).toNat → ¬ x.reservedZero w) := by
    intro x
    rw [← Bool.not_eq_true, hits_iff_fields, not_and, BitVec.toNat_inj]
  simp only [hrow]
  constructor
  · intro hill x hop hzero
    rw [IllegalFields, hop] at hill
    clear hop
    cases x <;> simp_all [Opcode.reservedZero, Opcode.pattern, opField]
  · intro h
    have hop : (opField w).toNat = 0 ∨ 7 ≤ (opField w).toNat ∨ (opField w).toNat = 1 ∨ (opField w).toNat = 2 ∨
        (opField w).toNat = 3 ∨ (opField w).toNat = 4 ∨ (opField w).toNat = 5 ∨ (opField w).toNat = 6 := by omega
    obtain h0 | h7 | h1 | h2 | h3 | h4 | h5 | h6 := hop
    · exact .inl h0
    · exact .inr (.inl h7)
    · exact .inr (.inr (.inl ⟨.inl h1, h .init h1⟩))
    · exact .inr (.inr (.inl ⟨.inr (.inl h2), h .enable h2⟩))
    · exact .inr (.inr (.inl ⟨.inr (.inr h3), h .disable h3⟩))
    · exact .inr (.inr (.inr (.inl ⟨h4, not_and_or.mp (h .wram h4)⟩)))
    · exact .inr (.inr (.inr (.inr ⟨.inl h5, h .encode h5⟩)))
    · exact .inr (.inr (.inr (.inr ⟨.inr h6, h .draw h6⟩)))

/-- A word that hits no row is no command, and the other way round. -/
theorem no_row_iff_not_decodes (w : CmdWord) : (∀ x : Opcode, x.hits w = false) ↔ ∀ i, decode w ≠ .ok i := by
  constructor
  · intro h i hd
    rw [decode_eq_ok_iff, h] at hd
    exact absurd hd.1 (by decide)
  · intro h x
    by_contra hx
    exact h _ (decode_of_hits x w (by simpa using hx))

theorem decode_of_no_row (w : CmdWord) (h : ∀ x : Opcode, x.hits w = false) : decode w = .error (illegalReason w) := by
  obtain ⟨x, hx, _⟩ | ⟨_, hd⟩ := decode_cases w
  · rw [h x] at hx
    cases hx
  · exact hd

end Sys2Proof

namespace Sys2Proof.Machine

/-! ## Illegal words (30_encoding.md R63) -/

theorem raise_eq_faultedWith (c : FaultCode) (s : State) : raise c s = s.faultedWith c := rfl

/-- The step whose move is a host write of CMD. -/
theorem step_writeCmd {s : State} {w : CmdWord} {ts : List Move} (h : s.turns = .host (.writeCmd w) :: ts) :
    step s = hostWriteCmd w { s with turns := ts } := by
  simp [step, h, makeMove, hostTurn]

/-- A write of an illegal word faults, once the two checks that come first are passed (60_exceptions.md R161). -/
theorem hostWriteCmd_illegal {s : State} {w : CmdWord} {e : DecodeError} (hd : decode w = .error e)
    (hp : s.phase ≠ .fault) (hb : s.busy = false) : hostWriteCmd w s = .next (s.faultedWith .illegalCommand) := by
  simp only [hostWriteCmd, hd]
  rw [illegalWord, accept_free _ s hp hb, raise_eq_faultedWith]

/-- Settles O5: the words of R63 are those that match no row, and the write of such a word is `raise` of ILLEGAL_COMMAND. -/
theorem illegalWordsFault : Obligations.IllegalWordsFault := by
  intro w op illegal
  have hrow : illegal ↔ ∀ x : Opcode, x.hits w = false := illegalFields_iff_no_row w
  refine ⟨hrow.trans (no_row_iff_not_decodes w), ?_⟩
  intro hill s ts hturns hp hb
  rw [step_writeCmd hturns]
  exact hostWriteCmd_illegal (decode_of_no_row w (hrow.mp hill)) hp hb

/-! ## Operands (30_encoding.md R61) -/

/-- The two bytes in front of the buffer are literals; buffer byte `k` is read at `b + k` (41_display_protocol.md R102). -/
theorem wramPayload_getElem?_buffer (o c : Byte) (b k : Nat) (hk : k < c.toNat) :
    (wramPayload o c b)[2 + k]? = some (.mem (b + k)) := by
  simp [wramPayload, hk, Nat.add_comm 2 k]

/-- WRITE_RAM accepted in IDLE with BASE written starts the transaction with the payload at BASE. -/
theorem exec_wram_idle {s : State} {o c : Byte} {b : Nat} (hp : s.phase = .idle) (hb : s.busy = false)
    (hbase : s.base = some b) : exec (.wram o c) s = .next (beginTxn (wramPayload o c b) s) := by
  have hbody : wramBody o c s = beginTxn (wramPayload o c b) s := by simp [wramBody, hbase, requireInit, hp]
  rw [exec_eq, accept_free _ s (by simp [hp]) hb, acceptedBody, hbody]

/-- Settles O4: the operands are the fields the row assembles, and the buffer addresses are those of the payload. -/
theorem operandAssembly : Obligations.OperandAssembly := by
  refine ⟨?_, ?_, ?_, ?_⟩
  · intro w o c h
    obtain ⟨_, ho, hc⟩ := (decode_eq_wram_iff w o c).mp h
    exact ⟨ho.symm, hc.symm⟩
  · intro w v f h
    obtain ⟨_, hv, hf⟩ := (decode_eq_encode_iff w v f).mp h
    exact ⟨hv.symm, hf.symm⟩
  · intro w v f h
    obtain ⟨_, hv, hf⟩ := (decode_eq_draw_iff w v f).mp h
    exact ⟨hv.symm, hf.symm⟩
  · intro s o c b k hp hb hbase hk
    exact ⟨_, exec_wram_idle hp hb hbase, wramPayload_getElem?_buffer o c b k hk⟩

/-! ## The address byte (30_encoding.md R67) -/

theorem addrByte_busAddr (p : Params) (d : BitVec 1) : (addrByte p d).extractLsb' 1 7 = p.busAddr := by
  apply BitVec.eq_of_getElem_eq
  intro i hi
  simp [addrByte, hi, show 1 + i < 8 by omega]

theorem addrByte_dir (p : Params) (d : BitVec 1) : (addrByte p d).extractLsb' 0 1 = d := by
  apply BitVec.eq_of_getElem_eq
  intro i hi
  obtain rfl : i = 0 := by omega
  simp [addrByte]

/-- Direction 0 adds no bit: the byte is `BUS_ADDR << 1`. -/
theorem addrByte_zero (p : Params) : addrByte p 0 = p.busAddr.setWidth 8 <<< 1 := by
  simp [addrByte]

/-- The row of W_SB with EV_SB set (40_bus_transport.md R92). -/
theorem sequencerTurn_wSB {s : State} (hp : s.phase = .wSB) (he : s.evSB = true) :
    sequencerTurn s = .next (sendAddress 0 (consumeSB s)) := by
  simp [sequencerTurn, hp, he]

/-- Settles O24: the byte by its two fields, and the sequencer's use of it with direction 0. -/
theorem addressByte : Obligations.AddressByte := by
  refine ⟨fun p d => ⟨addrByte_busAddr p d, addrByte_dir p d⟩, addrByte_zero, ?_⟩
  intro s hp he
  exact ⟨_, sequencerTurn_wSB hp he, congrArg (fun b => s.trace ++ [.byte b]) (addrByte_zero s.par)⟩

end Sys2Proof.Machine
end

section
/-! BUS_RESET (40_bus_transport.md R81). -/

namespace Sys2Proof.Machine

/-- The writes of BUS_RESET in order amount to one update: PE and SWRST keep the last value written. -/
theorem busReset_eq (s : State) :
    busReset s = { s with pe := true, swrst := false, cfg := .configured fixedCfg, evSB := false, evAddr := false,
                          evBtf := false, polls := 0 } := rfl

/-- BUS_RESET changes nothing in a state whose seven fields already hold what it writes. -/
theorem busReset_eq_self {s : State} (hpe : s.pe = true) (hswrst : s.swrst = false)
    (hcfg : s.cfg = .configured fixedCfg) (hsb : s.evSB = false) (haddr : s.evAddr = false) (hbtf : s.evBtf = false)
    (hpolls : s.polls = 0) : busReset s = s := by
  cases s
  simp_all [busReset_eq]

/-- After one BUS_RESET the seven fields hold what a second one writes. -/
theorem busReset_busReset (s : State) : busReset (busReset s) = busReset s :=
  busReset_eq_self (busReset_pe s) (busReset_swrst s) (busReset_cfg s) (busReset_evSB s) (busReset_evAddr s)
    (busReset_evBtf s) (busReset_polls s)

/-- Settles O23: the effect is the single update, and the second BUS_RESET meets a state it leaves as it is. -/
theorem busResetEffect : Obligations.BusResetEffect :=
  fun s => ⟨busReset_eq s, busReset_busReset s⟩

end Sys2Proof.Machine
end

section
/-! Encoded words decode as what they encode (30_encoding.md R61, R62). -/

namespace Sys2Proof

theorem hits_encode (i : Instr) : i.opcode.hits (encode i) = true := by
  cases i with
  | init => exact Laws.EncodedRow.init
  | enable => exact Laws.EncodedRow.enable
  | disable => exact Laws.EncodedRow.disable
  | wram o c => exact Laws.EncodedRow.wram o c
  | encode v f => exact Laws.EncodedRow.encode v f
  | draw v f => exact Laws.EncodedRow.draw v f

/-- The operands a row assembles from an encoded word are the operands that were encoded (30_encoding.md R61). -/
theorem assemble_encode (i : Instr) : i.opcode.assemble (encode i) = i := by
  cases i with
  | init => rfl
  | enable => rfl
  | disable => rfl
  | wram o c =>
    have hOp : originField 0x4#32 = 0 ∧ countField 0x4#32 = 0 := by decide
    simp [Instr.opcode, Opcode.assemble, encode, originField_or, countField_or, originField_shift8, originField_shift16,
      countField_shift8, countField_shift16, hOp]
  | encode v f =>
    have hOp : valueField 0x5#32 = 0 ∧ fField 0x5#32 = false := by decide
    simp [Instr.opcode, Opcode.assemble, encode, valueField_or, fField_or, valueField_shift, fField_shift,
      valueField_fBit, fField_fBit, hOp]
  | draw v f =>
    have hOp : valueField 0x6#32 = 0 ∧ fField 0x6#32 = false := by decide
    simp [Instr.opcode, Opcode.assemble, encode, valueField_or, fField_or, valueField_shift, fField_shift,
      valueField_fBit, fField_fBit, hOp]

theorem decode_encode (i : Instr) : decode (encode i) = .ok i :=
  (decode_eq_ok_iff _ i).mpr ⟨hits_encode i, assemble_encode i⟩

end Sys2Proof
end

section
/-! A whole transaction: acceptance, then one answered wait after the other (40_bus_transport.md R89, R92). -/

namespace Sys2Proof.Machine

/-! ## The bytes of a payload -/

@[simp] theorem fetch_lit (s : State) (b : Byte) : s.fetch (.lit b) = some b := rfl

@[simp] theorem fetch_mem (s : State) (a : Nat) : s.fetch (.mem a) = s.memRead a := rfl

/-- A read inside the address space is admitted exactly where the byte is readable (20_memory.md R44, R45). -/
theorem memRead_of_lt {s : State} {a : Nat} (h : a < 2 ^ s.par.addrWidth) : s.memRead a = s.readByte a :=
  if_pos h

/-- A payload sends `bytes` exactly when each of its sources fetches the byte at its place. -/
theorem fetchAll_eq_some_iff (s : State) (pl : List ByteSource) (bytes : List Byte) :
    s.fetchAll pl = some bytes ↔ pl.map s.fetch = bytes.map some := by
  induction pl generalizing bytes with
  | nil => cases bytes <;> simp [State.fetchAll]
  | cons x xs ih =>
    cases bytes with
    | nil => simp only [State.fetchAll]; split <;> simp
    | cons b bs =>
      simp only [State.fetchAll, List.map_cons, List.cons.injEq, ← ih]
      cases s.fetch x <;> cases s.fetchAll xs <;> simp

theorem fetchAll_cons_eq_some {s : State} {x : ByteSource} {xs : List ByteSource} {bytes : List Byte}
    (h : s.fetchAll (x :: xs) = some bytes) :
    ∃ b bs, bytes = b :: bs ∧ s.fetch x = some b ∧ s.fetchAll xs = some bs := by
  simp only [State.fetchAll] at h
  split at h
  · rename_i b bs hx hxs
    exact ⟨b, bs, (Option.some.inj h).symm, hx, hxs⟩
  · cases h

theorem fetchAll_nil_eq_some {s : State} {bytes : List Byte} (h : s.fetchAll [] = some bytes) : bytes = [] :=
  (Option.some.inj h).symm

/-- A payload sends the same bytes in every state with the same host memory and parameters. -/
theorem fetchAll_of_same_memory {s t : State} {pl : List ByteSource} {bytes : List Byte}
    (h : s.fetchAll pl = some bytes) (hm : t.hmem = s.hmem) (hpar : t.par = s.par) : t.fetchAll pl = some bytes :=
  (fetchAll_congr s t hm hpar pl).trans h

/-! ## Acceptance (60_exceptions.md R161) -/

theorem requireInit_idle (body : State → State) {s : State} (hp : s.phase = .idle) : requireInit body s = body s := by
  simp [requireInit, hp]

/-- In IDLE a transaction command starts its transaction, with IMG written first where the command is DRAW_DIGITS. -/
theorem acceptedBody_txnCommand {s : State} {i : Instr} {pl : List ByteSource} (hp : s.phase = .idle)
    (hpl : txnPayload s i = some pl) : acceptedBody i s = { s with img := imgAfter s i }.txnStarted pl := by
  cases i with
  | init => cases hpl
  | encode v f => cases hpl
  | enable => cases hpl; exact requireInit_idle _ hp
  | disable => cases hpl; exact requireInit_idle _ hp
  | draw v f => cases hpl; exact requireInit_idle _ hp
  | wram o c =>
    obtain ⟨b, hbase, rfl⟩ := Option.map_eq_some_iff.mp hpl
    have hbody : wramBody o c s = requireInit (beginTxn (wramPayload o c b)) s := by simp [wramBody, hbase]
    exact hbody.trans (requireInit_idle _ hp)

/-- The acceptance row of 40_bus_transport.md R92. -/
theorem exec_txnCommand {s : State} {i : Instr} {pl : List ByteSource} (hp : s.phase = .idle) (hb : s.busy = false)
    (hpl : txnPayload s i = some pl) : exec i s = .next ({ s with img := imgAfter s i }.txnStarted pl) := by
  rw [exec_eq, accept_free _ s (by simp [hp]) hb, acceptedBody_txnCommand hp hpl]

/-- What a command leaves in IMG depends on IMG and the parameters alone. -/
theorem imgAfter_congr {s t : State} (himg : t.img = s.img) (hpar : t.par = s.par) (i : Instr) :
    imgAfter t i = imgAfter s i := by
  cases i <;> simp [imgAfter, himg, hpar]

/-- The payload of a command depends on BASE and the parameters alone. -/
theorem txnPayload_congr {s t : State} (hbase : t.base = s.base) (hpar : t.par = s.par) (i : Instr) :
    txnPayload t i = txnPayload s i := by
  cases i <;> simp [txnPayload, hbase, hpar]

/-- The step in which the host writes the word of a transaction command to CMD in IDLE. -/
theorem step_txnCommand {s : State} {i : Instr} {pl : List ByteSource} {ts : List Move} (hp : s.phase = .idle)
    (hb : s.busy = false) (hpl : txnPayload s i = some pl) (ht : s.turns = .host (.writeCmd (encode i)) :: ts) :
    step s = .next ({ s with turns := ts, img := imgAfter s i }.txnStarted pl) := by
  have himg : imgAfter { s with turns := ts } i = imgAfter s i := imgAfter_congr rfl rfl i
  have hpl' : txnPayload { s with turns := ts } i = some pl := (txnPayload_congr rfl rfl i).trans hpl
  have hexec := exec_txnCommand (s := { s with turns := ts }) hp hb hpl'
  rw [himg] at hexec
  rw [step_writeCmd ht, hostWriteCmd, decode_encode]
  exact hexec

/-- Every transaction sends at least one byte (41_display_protocol.md R105). -/
theorem txnPayload_ne_nil {s : State} {i : Instr} {pl : List ByteSource} (hpl : txnPayload s i = some pl) : pl ≠ [] := by
  cases i with
  | init => cases hpl
  | encode v f => cases hpl
  | enable => cases hpl; simp
  | disable => cases hpl; simp
  | draw v f => cases hpl; simp
  | wram o c =>
    obtain ⟨b, _, rfl⟩ := Option.map_eq_some_iff.mp hpl
    simp

/-! ## One answered wait -/

theorem busAnswer_wSB {s : State} (hp : s.phase = .wSB) : busAnswer s = { s with evSB := true } := by
  simp [busAnswer, hp]

theorem busAnswer_wAddr {s : State} (hp : s.phase = .wAddr) : busAnswer s = { s with evAddr := true } := by
  simp [busAnswer, hp]

theorem busAnswer_wBtf {s : State} (hp : s.phase = .wBtf) : busAnswer s = { s with evBtf := true } := by
  simp [busAnswer, hp]

theorem sequencerTurn_wAddr {s : State} (hp : s.phase = .wAddr) (he : s.evAddr = true) :
    sequencerTurn s = sendPayload 0 (consumeAddr s) := by
  simp [sequencerTurn, hp, he]

theorem sequencerTurn_wBtf {s : State} (hp : s.phase = .wBtf) (he : s.evBtf = true) :
    sequencerTurn s = sendPayload s.idx (consumeBtf s) := by
  simp [sequencerTurn, hp, he]

theorem sendPayload_of_fetch {k : Nat} {s : State} {x : ByteSource} {b : Byte} (hx : s.pl[k]? = some x)
    (hf : s.fetch x = some b) : sendPayload k s = .next { sendByte b s with idx := k + 1 } := by
  cases x with
  | lit c => cases hf; simp [sendPayload, hx]
  | mem a => rw [fetch_mem] at hf; simp [sendPayload, hx, hf]

theorem sendPayload_of_end {k : Nat} {s : State} (hx : s.pl[k]? = none) : sendPayload k s = .next (finishTxn s) := by
  simp [sendPayload, hx]

/-- The answered wait for the start condition: the address byte goes out. -/
theorem answered_wSB {s : State} (hp : s.phase = .wSB) :
    sequencerTurn (busAnswer s) = .next (sendAddress 0 (consumeSB s)) := by
  rw [busAnswer_wSB hp]
  exact sequencerTurn_wSB hp rfl

/-- The answered wait for the address: payload byte 0 goes out. -/
theorem answered_wAddr {s : State} {x : ByteSource} {b : Byte} (hp : s.phase = .wAddr) (hx : s.pl[0]? = some x)
    (hf : s.fetch x = some b) :
    sequencerTurn (busAnswer s) = .next { sendByte b (consumeAddr s) with idx := 1 } := by
  have hrow : sequencerTurn { s with evAddr := true } = sendPayload 0 (consumeAddr s) := sequencerTurn_wAddr hp rfl
  rw [busAnswer_wAddr hp, hrow]
  exact sendPayload_of_fetch hx hf

/-- The answered wait for a byte that is not the last: the next one goes out. -/
theorem answered_wBtf_byte {s : State} {x : ByteSource} {b : Byte} (hp : s.phase = .wBtf)
    (hx : s.pl[s.idx]? = some x) (hf : s.fetch x = some b) :
    sequencerTurn (busAnswer s) = .next { sendByte b (consumeBtf s) with idx := s.idx + 1 } := by
  have hrow : sequencerTurn { s with evBtf := true } = sendPayload s.idx (consumeBtf s) := sequencerTurn_wBtf hp rfl
  rw [busAnswer_wBtf hp, hrow]
  exact sendPayload_of_fetch hx hf

/-- The answered wait for the last byte: the stop condition, and the block is IDLE. -/
theorem answered_wBtf_end {s : State} (hp : s.phase = .wBtf) (hx : s.pl[s.idx]? = none) :
    sequencerTurn (busAnswer s) = .next (finishTxn (consumeBtf s)) := by
  have hrow : sequencerTurn { s with evBtf := true } = sendPayload s.idx (consumeBtf s) := sequencerTurn_wBtf hp rfl
  rw [busAnswer_wBtf hp, hrow]
  exact sendPayload_of_end hx

/-- BusEnv's move does not look at the moves to come. -/
theorem busAnswer_with_turns (s : State) (ts : List Move) :
    { busAnswer s with turns := ts } = busAnswer { s with turns := ts } := by
  cases hp : s.phase <;> simp [busAnswer, hp]

theorem step_busEnv {s : State} {ts : List Move} (h : s.turns = .busEnv :: ts) :
    step s = .next (busAnswer { s with turns := ts }) := by
  simp [step, h, makeMove]

theorem step_sequencer {s : State} {ts : List Move} (h : s.turns = .sequencer :: ts) :
    step s = sequencerTurn { s with turns := ts } := by
  simp [step, h, makeMove]

theorem run_succ {s t : State} (h : step s = .next t) (n : Nat) : run (n + 1) s = run n t := by
  simp only [run, h]

/-- A wait answered at once takes two steps: BusEnv's answer and the sequencer's turn that consumes it. -/
theorem run_answered {s t : State} {k : Nat} {ts : List Move} (ht : s.turns = answered (k + 1) ++ ts)
    (hturn : sequencerTurn (busAnswer { s with turns := answered k ++ ts }) = .next t) (n : Nat) :
    run (n + 2) s = run n t := by
  have hsequencer : step (busAnswer { s with turns := .sequencer :: (answered k ++ ts) }) = .next t := by
    rw [step_sequencer (busAnswer_turns _), busAnswer_with_turns]
    exact hturn
  rw [run_succ (step_busEnv ht)]
  exact run_succ hsequencer n

/-! ## Whole transactions -/

/-- From W_BTF the payload bytes still to come go out one after the other, and then the stop condition. -/
theorem run_wBtf {rest : List ByteSource} {s : State} {bytes : List Byte} {ts : List Move} (hp : s.phase = .wBtf)
    (hrest : s.pl.drop s.idx = rest) (hf : s.fetchAll rest = some bytes) (ht : s.turns = answered (bytes.length + 1) ++ ts) :
    run (2 * (bytes.length + 1)) s = .next
      { s with turns := ts, phase := .idle, busy := false, idx := s.idx + bytes.length, evBtf := false, polls := 0,
               trace := s.trace ++ bytes.map .byte ++ [.stop] } := by
  induction rest generalizing s bytes with
  | nil =>
    obtain rfl := fetchAll_nil_eq_some hf
    have hx : s.pl[s.idx]? = none := List.getElem?_eq_none (List.drop_eq_nil_iff.mp hrest)
    rw [List.length_nil, run_answered (k := 0) ht (answered_wBtf_end (s := { s with turns := answered 0 ++ ts }) hp hx) 0]
    simp [run, answered, finishTxn, complete, stopCondition, wire, consumeBtf]
  | cons x xs ih =>
    obtain ⟨b, bs, rfl, hb, hbs⟩ := fetchAll_cons_eq_some hf
    have hx : s.pl[s.idx]? = some x := by rw [← List.head?_drop, hrest]; rfl
    have hxs : s.pl.drop (s.idx + 1) = xs := by rw [← List.tail_drop, hrest]; rfl
    calc run (2 * (bs.length + 1) + 2) s
        = run (2 * (bs.length + 1)) _ := run_answered (k := bs.length + 1) ht (answered_wBtf_byte hp hx hb) _
      _ = _ := ih rfl hxs (fetchAll_of_same_memory hbs rfl rfl) rfl
      _ = _ := by simp [sendByte, wire, consumeBtf, Nat.add_assoc, Nat.add_comm 1]

/-- From W_ADDR the whole payload goes out, and then the stop condition. -/
theorem run_wAddr {s : State} {bytes : List Byte} {ts : List Move} (hp : s.phase = .wAddr) (hpl : s.pl ≠ [])
    (hf : s.fetchAll s.pl = some bytes) (ht : s.turns = answered (bytes.length + 1) ++ ts) :
    run (2 * (bytes.length + 1)) s = .next
      { s with turns := ts, phase := .idle, busy := false, idx := bytes.length, evAddr := false, evBtf := false, polls := 0,
               trace := s.trace ++ bytes.map .byte ++ [.stop] } := by
  obtain ⟨x, xs, hcons⟩ := List.exists_cons_of_ne_nil hpl
  rw [hcons] at hf
  obtain ⟨b, bs, rfl, hb, hbs⟩ := fetchAll_cons_eq_some hf
  have hx : s.pl[0]? = some x := by rw [hcons]; rfl
  have hxs : s.pl.drop 1 = xs := by rw [hcons]; rfl
  calc run (2 * (bs.length + 1) + 2) s
      = run (2 * (bs.length + 1)) _ := run_answered (k := bs.length + 1) ht (answered_wAddr hp hx hb) _
    _ = _ := run_wBtf rfl hxs (fetchAll_of_same_memory hbs rfl rfl) rfl
    _ = _ := by simp [sendByte, wire, consumeAddr, Nat.add_comm 1]

/-- From W_SB a transaction whose bytes are admitted and whose waits are answered puts the rest of its frame on the wire
(40_bus_transport.md R89). -/
theorem run_wSB {s : State} {bytes : List Byte} {ts : List Move} (hp : s.phase = .wSB) (hsb : s.evSB = false)
    (haddr : s.evAddr = false) (hbtf : s.evBtf = false) (hpl : s.pl ≠ []) (hf : s.fetchAll s.pl = some bytes)
    (ht : s.turns = answered (bytes.length + 2) ++ ts) :
    run (2 * (bytes.length + 2)) s = .next
      { s with turns := ts, phase := .idle, busy := false, idx := bytes.length, polls := 0,
               trace := s.trace ++ .byte (addrByte s.par 0) :: bytes.map .byte ++ [.stop] } := by
  calc run (2 * (bytes.length + 1) + 2) s
      = run (2 * (bytes.length + 1)) _ := run_answered (k := bytes.length + 1) ht (answered_wSB hp) _
    _ = _ := run_wAddr rfl hpl (fetchAll_of_same_memory hf rfl rfl) rfl
    _ = _ := by simp [sendAddress, wire, consumeSB, hsb, haddr, hbtf]

/-- The state a transaction command leaves behind: its whole frame in TRACE, the block in IDLE with BUSY = 0, and the rest as
acceptance set it. -/
def State.txnDone (s : State) (i : Instr) (pl : List ByteSource) (bytes : List Byte) (ts : List Move) : State :=
  { { s with img := imgAfter s i }.txnStarted pl with
    turns := ts, phase := .idle, busy := false, idx := bytes.length, trace := s.trace ++ fullFrame s.par bytes }

/-- A transaction command accepted in IDLE, its waits answered, runs a complete transaction of its own
(41_display_protocol.md R103). -/
theorem run_txnCommand {s : State} {i : Instr} {pl : List ByteSource} {bytes : List Byte} {ts : List Move}
    (hp : s.phase = .idle) (hb : s.busy = false) (hpl : txnPayload s i = some pl) (hf : s.fetchAll pl = some bytes)
    (ht : s.turns = .host (.writeCmd (encode i)) :: answered (bytes.length + 2) ++ ts) :
    run (2 * (bytes.length + 2) + 1) s = .next (s.txnDone i pl bytes ts) := by
  calc run (2 * (bytes.length + 2) + 1) s
      = run (2 * (bytes.length + 2)) _ := run_succ (step_txnCommand hp hb hpl ht) _
    _ = _ := run_wSB rfl rfl rfl rfl (txnPayload_ne_nil hpl) (fetchAll_of_same_memory hf rfl rfl) rfl
    _ = _ := by simp [State.txnDone, State.txnStarted, fullFrame]

end Sys2Proof.Machine
end

section
/-! The display protocol: no coalescing and WRITE_RAM (41_display_protocol.md R103, R104, R106). -/

namespace Sys2Proof.Machine

/-- Settles O34: the first command leaves a state in which the second one is again accepted in IDLE with the same payload and the
same bytes, so `run_txnCommand` applies twice. -/
theorem noCoalescing : Obligations.NoCoalescing := by
  refine ⟨?_, fun p => rfl⟩
  intro s i pl bytes j pl' bytes' ts hp hb hi hbytes hj hbytes' ht
  let t := s.txnDone i pl bytes (.host (.writeCmd (encode j)) :: answered (bytes'.length + 2) ++ ts)
  have hjt : txnPayload t j = some pl' := (txnPayload_congr rfl rfl j).trans hj
  have hbytest : t.fetchAll pl' = some bytes' := fetchAll_of_same_memory hbytes' rfl rfl
  exact ⟨t, t.txnDone j pl' bytes' ts, run_txnCommand hp hb hi hbytes ht, run_txnCommand rfl rfl hjt hbytest rfl,
    rfl, rfl, rfl, exec_txnCommand rfl rfl hjt, rfl, rfl, rfl⟩

theorem txnPayload_wram {s : State} {b : Nat} (o c : Byte) (hbase : s.base = some b) :
    txnPayload s (.wram o c) = some (wramPayload o c b) := by
  rw [txnPayload, hbase]
  rfl

/-- The bytes WRITE_RAM sends: the command byte, the origin, then the buffer in order (41_display_protocol.md R106). -/
theorem fetchAll_wramPayload {s : State} {c : Byte} {b : Nat} {data : List Byte} (o : Byte) (hlen : data.length = c.toNat)
    (hspace : b + c.toNat ≤ 2 ^ s.par.addrWidth) (hdata : ∀ k, k < c.toNat → s.readByte (b + k) = data[k]?) :
    s.fetchAll (wramPayload o c b) = some (0x44 :: o :: data) := by
  have hbuffer : (List.range c.toNat).map (fun k => s.memRead (b + k)) = data.map some := by
    apply List.ext_getElem
    · simp [hlen]
    · intro k hk hk'
      have hkc : k < c.toNat := by simpa using hk
      rw [List.getElem_map, List.getElem_range, memRead_of_lt (by omega), hdata k hkc, List.getElem_map,
        List.getElem?_eq_getElem (by omega)]
  rw [fetchAll_eq_some_iff]
  simpa [wramPayload, cmdRamSel, Function.comp_def] using hbuffer

/-- Settles O35: the payload of WRITE_RAM at BASE fetches the two header bytes and the buffer. -/
theorem wramOnTheWire : Obligations.WramOnTheWire := by
  intro s o c b data ts hp hb hbase hlen hspace hdata ht
  have hbytes := fetchAll_wramPayload o hlen hspace hdata
  have hcount : (0x44 :: o :: data).length + 2 = c.toNat + 4 := by simp [hlen]
  rw [← hcount] at ht ⊢
  refine ⟨_, run_txnCommand hp hb (txnPayload_wram o c hbase) hbytes ht, rfl, rfl, rfl, rfl, ?_⟩
  simp [State.txnDone, fullFrame]

/-- WRITE_RAM with BASE never written (60_exceptions.md R161). -/
theorem exec_wram_of_base_none {s : State} (o c : Byte) (hp : s.phase ≠ .fault) (hb : s.busy = false)
    (hbase : s.base = none) : exec (.wram o c) s = .next (s.faultedWith .illegalCommand) := by
  have hbody : wramBody o c s = raise .illegalCommand s := by simp [wramBody, hbase]
  rw [exec_eq, accept_free _ s hp hb, acceptedBody, hbody, raise_eq_faultedWith]

/-- Settles O36: with COUNT = 0 the payload is two literals, whose bytes depend on no memory. -/
theorem emptyRamWrite : Obligations.EmptyRamWrite := by
  refine ⟨?_, ?_⟩
  · intro s o b ts m hp hb hbase ht
    have hrun : run 9 { s with hmem := m } = .next
        ({ s with hmem := m }.txnDone (.wram o 0) (wramPayload o 0 b) [0x44, o] ts) :=
      run_txnCommand (bytes := [0x44, o]) hp hb (txnPayload_wram o 0 hbase) rfl ht
    exact ⟨_, hrun, rfl, rfl, rfl, rfl⟩
  · intro s o hp hb hbase
    exact exec_wram_of_base_none o 0 (by simp [hp]) hb hbase

end Sys2Proof.Machine
end

section
/-! The segment encoder: the error image, and the command ENCODE (42_segment_encoder.md R122, R124, R126). -/

namespace Sys2Proof

theorem fBit_eq (f : Bool) : fBit f = (if f then 1 else 0 : CmdWord) <<< 4 := by cases f <;> rfl

/-- The four equations of 42_segment_encoder.md R124. -/
theorem digit0_iff (p : Params) :
    p.digit0 = true ↔ p.unitsTab[0].prim = 0x1F ∧ p.unitsTab[0].sec ||| p.tensTab[0].prim = 0xAF ∧
      p.tensTab[0].sec ||| p.hundredsTab[0].prim = 0x9D ∧ p.hundredsTab[0].sec = 0x50 := by
  simp [Params.digit0, and_assoc]

end Sys2Proof

namespace Sys2Proof.Machine

/-! ## The error image (42_segment_encoder.md R121, R122) -/

theorem enc_of_invalid (p : Params) {v : Value} (f : Bool) (h : invalid v = true) : enc p v f = errImg :=
  if_pos h

/-- A value under the mask of the thousands nibble is that nibble at its place. -/
theorem and_thousandsMask (v : Value) : v &&& (0xF000 : Value) = (thousands v).setWidth 16 <<< 12 := by
  rw [show (0xF000 : Value) = BitVec.allOnes 16 <<< 12 from rfl]
  apply BitVec.eq_of_getElem_eq
  intro i hi
  rw [BitVec.getElem_and, BitVec.getElem_shiftLeft, BitVec.getElem_shiftLeft, BitVec.getElem_allOnes]
  by_cases hlow : i < 12
  · simp [hlow]
  · simp [thousands, hlow, show i - 12 < 4 by omega, show 12 + (i - 12) = i by omega, BitVec.getLsbD_eq_getElem hi]

/-- The first of the four comparisons rejects every thousands nibble above 1 (42_segment_encoder.md R121). -/
theorem invalid_of_two_le_thousands {v : Value} (h : 2 ≤ (thousands v).toNat) : invalid v = true := by
  have hrejected : ∀ d : Nibble, 2 ≤ d.toNat → d.setWidth 16 <<< 12 > (0x1000 : Value) := by decide
  have hgt : v &&& 0xF000 > 0x1000 := by
    rw [and_thousandsMask]
    exact hrejected _ h
  simp only [invalid, decide_eq_true hgt, Bool.true_or]

/-- Settles O42: the validity test comes first in ENC, and a thousands nibble above 1 fails it. -/
theorem invalidGivesErrorImage : Obligations.InvalidGivesErrorImage :=
  ⟨fun p _ f h => enc_of_invalid p f h,
   fun p _ f h => enc_of_invalid p f (invalid_of_two_le_thousands h), rfl, rfl⟩

/-! ## The command ENCODE (42_segment_encoder.md R126) -/

/-- VALUE 0x0000 is valid, and its three digits are drawn from the entries of digit 0. -/
theorem enc_zero (p : Params) (f : Bool) :
    enc p 0 f = drawHundreds p.hundredsTab[0] (drawTens p.tensTab[0] (drawUnits p.unitsTab[0] (markers 0 f))) := rfl

/-- The image of VALUE 0x0000 under the digit-0 constraint (42_segment_encoder.md R124). -/
theorem enc_zero_of_digit0 {p : Params} (f : Bool) (h : p.digit0 = true) :
    enc p 0 f = { b0 := 0x1F, b1 := (if f then fracBit else 0) ||| 0xAF, b2 := 0x9D, b3 := 0x50 } := by
  obtain ⟨hb0, hb1, hb2, hb3⟩ := (digit0_iff p).mp h
  rw [enc_zero]
  simp [drawHundreds, drawTens, drawUnits, markers, BitVec.or_assoc, hb0, hb1, hb2, hb3]

/-- Every command faults while BUSY (60_exceptions.md R161). -/
theorem exec_busy (i : Instr) {s : State} (hp : s.phase ≠ .fault) (hb : s.busy = true) :
    exec i s = .next (s.faultedWith .busyViolation) := by
  rw [exec_eq, accept_busy _ s hp hb, raise_eq_faultedWith]

/-- An accepted ENCODE completes at once: acceptance asks for no phase but that it is not FAULT. -/
theorem exec_encode_free {s : State} (v : Value) (f : Bool) (hp : s.phase ≠ .fault) (hb : s.busy = false) :
    exec (.encode v f) s = .next (encodeBody v f s) := by
  rw [exec_eq, accept_free _ s hp hb, acceptedBody]

theorem hostWriteCmd_encode (i : Instr) (s : State) : hostWriteCmd (encode i) s = exec i s := by
  simp only [hostWriteCmd, decode_encode]

/-- Settles O17: `encodeBody` is the whole result of an accepted ENCODE, and the word of the example encodes VALUE 0 with F = 1. -/
theorem encodeResult : Obligations.EncodeResult := by
  refine ⟨?_, fun s v f hp hb => exec_encode_free v f hp hb, fun s v f hp hb => exec_busy _ hp hb, ?_⟩
  · intro v f
    rw [encode, fBit_eq]
  · intro s hp hb h0
    have hstep : hostTurn (.writeCmd 0x00000015) s = .next (encodeBody 0 true s) :=
      (hostWriteCmd_encode (.encode 0 true) s).trans (exec_encode_free 0 true hp hb)
    have himg := enc_zero_of_digit0 true h0
    exact ⟨_, _, hstep, encodeBody_img 0 true s, himg, congrArg Image.word himg⟩

end Sys2Proof.Machine
end

section
/-! The facade: INIT and DRAW_DIGITS (43_facade.md R140 to R142). -/

namespace Sys2Proof.Machine

/-! ## DRAW_DIGITS -/

/-- The six literals of 43_facade.md R141. -/
theorem txnPayload_draw (s : State) (v : Value) (f : Bool) :
    txnPayload s (.draw v f) = some (drawPayload (enc s.par v f)) := rfl

/-- Literals need no host memory: the payload of DRAW_DIGITS sends the command byte, origin 3 and the image, byte[0] first. -/
theorem fetchAll_drawPayload (s : State) (img : Image) : s.fetchAll (drawPayload img) = some (0x44 :: 3 :: img.bytes) := rfl

/-- Settles O37: the six payload bytes are literals whatever VALUE is, so the transaction runs to its end with eight answered
waits. -/
theorem drawOnTheWire : Obligations.DrawOnTheWire := by
  intro s v f ts hp hb ht
  have hrun := run_txnCommand hp hb (txnPayload_draw s v f) (fetchAll_drawPayload s _) ht
  exact ⟨_, hrun, rfl, rfl, rfl, rfl, rfl⟩

/-! ## INIT -/

/-- An accepted INIT completes at once: acceptance asks for no phase but that it is not FAULT. -/
theorem exec_init_free {s : State} (hp : s.phase ≠ .fault) (hb : s.busy = false) :
    exec .init s = .next (initBody s) := by
  rw [exec_eq, accept_free _ s hp hb, acceptedBody]

/-- INIT writes constants alone, so the second one finds each of them in place. -/
theorem initBody_initBody (s : State) : initBody (initBody s) = initBody s := rfl

/-- A second INIT is accepted in the IDLE the first one leaves behind, and changes nothing. -/
theorem exec_init_initBody {s : State} (hb : s.busy = false) : exec .init (initBody s) = .next (initBody s) := by
  rw [exec_init_free (by simp) (by simpa using hb), initBody_initBody]

/-- Settles O15: `initBody` is the whole result of an accepted INIT and is idempotent; INIT faults while BUSY as every command
does. -/
theorem initResult : Obligations.InitResult := by
  refine ⟨rfl, fun s hp hb => exec_init_free hp hb, ?_, fun s hp hb => exec_busy .init hp hb, ?_⟩
  · intro s t hp hb ht
    rw [exec_init_free hp hb] at ht
    obtain rfl := Host.Outcome.next.inj ht
    exact exec_init_initBody hb
  · exact ⟨_, exec_init_free (by decide) rfl, rfl, rfl, rfl, rfl, rfl, rfl, rfl⟩

end Sys2Proof.Machine
end

section
/-! Exceptions: command acceptance, PHASE FAULT and reads of IMG (60_exceptions.md R161, R163, R164). -/

namespace Sys2Proof.Machine

/-! ## Reads of IMG (R163, R164) -/

theorem hostReadImg_some {s : State} {img : Image} (h : s.img = some img) :
    hostReadImg s = { s with lastRead := some (.img img.word) } := by
  simp [hostReadImg, h]

theorem hostReadImg_none {s : State} (h : s.img = none) (hp : s.phase ≠ .fault) :
    hostReadImg s = { s with lastRead := some .noValue }.faultedWith .imgUnwritten := by
  simp [hostReadImg, h, hp, raise_eq_faultedWith]

theorem hostReadImg_none_fault {s : State} (h : s.img = none) (hp : s.phase = .fault) :
    hostReadImg s = { s with lastRead := some .noValue } := by
  simp [hostReadImg, h, hp]

/-- Settles O49: the branches of a read of IMG outside PHASE FAULT. -/
theorem imgReads : Obligations.ImgReads :=
  ⟨fun _ h hp => congrArg Host.Outcome.next (hostReadImg_none h hp),
   fun _ _ h => congrArg Host.Outcome.next (hostReadImg_some h)⟩

/-! ## The first two checks of a CMD write (R161) -/

theorem hostTurn_writeCmd_of_decode {w : CmdWord} {i : Instr} (hd : decode w = .ok i) (s : State) :
    hostTurn (.writeCmd w) s = exec i s := by
  simp only [hostTurn, hostWriteCmd, hd]

theorem hostTurn_writeCmd_of_error {w : CmdWord} {e : DecodeError} (hd : decode w = .error e) (s : State) :
    hostTurn (.writeCmd w) s = .next (illegalWord s) := by
  simp only [hostTurn, hostWriteCmd, hd]

/-- A write of any word, command or not, is a checked body. -/
theorem hostTurn_writeCmd_eq_accept (w : CmdWord) :
    ∃ body : State → State, ∀ s, hostTurn (.writeCmd w) s = .next (accept body s) := by
  cases hd : decode w with
  | ok i => exact ⟨acceptedBody i, fun s => (hostTurn_writeCmd_of_decode hd s).trans (exec_eq i s)⟩
  | error e => exact ⟨raise .illegalCommand, hostTurn_writeCmd_of_error hd⟩

theorem hostTurn_writeCmd_fault (w : CmdWord) {s : State} (hp : s.phase = .fault) :
    hostTurn (.writeCmd w) s = .next s := by
  obtain ⟨body, hbody⟩ := hostTurn_writeCmd_eq_accept w
  rw [hbody, accept_fault body s hp]

theorem hostTurn_writeCmd_busy (w : CmdWord) {s : State} (hp : s.phase ≠ .fault) (hb : s.busy = true) :
    hostTurn (.writeCmd w) s = .next (s.faultedWith .busyViolation) := by
  obtain ⟨body, hbody⟩ := hostTurn_writeCmd_eq_accept w
  rw [hbody, accept_busy body s hp hb, raise_eq_faultedWith]

/-! ## The last checks of a CMD write, and what they lead to (R161) -/

/-- A word that decodes as no command faults, once the first two checks are passed. -/
theorem hostTurn_writeCmd_illegal {w : CmdWord} {s : State} (hw : ∀ i, decode w ≠ .ok i) (hp : s.phase ≠ .fault)
    (hb : s.busy = false) : hostTurn (.writeCmd w) s = .next (s.faultedWith .illegalCommand) :=
  hostWriteCmd_illegal (decode_of_no_row w ((no_row_iff_not_decodes w).mpr hw)) hp hb

/-- A command with a payload starts its transaction, behind the check that INIT has run. -/
theorem acceptedBody_eq_requireInit {s : State} {i : Instr} {pl : List ByteSource} (hpl : txnPayload s i = some pl) :
    acceptedBody i s = requireInit (fun t => { t with img := imgAfter s i }.txnStarted pl) s := by
  cases i with
  | init => cases hpl
  | encode v f => cases hpl
  | enable => cases hpl; rfl
  | disable => cases hpl; rfl
  | draw v f => cases hpl; rfl
  | wram o c =>
    obtain ⟨b, hbase, rfl⟩ := Option.map_eq_some_iff.mp hpl
    simp only [acceptedBody, wramBody, hbase]
    rfl

theorem exec_txnCommand_off {s : State} {i : Instr} {pl : List ByteSource} (hpl : txnPayload s i = some pl)
    (hp : s.phase = .off) (hb : s.busy = false) : exec i s = .next (s.faultedWith .notInitialised) := by
  rw [exec_eq, accept_free _ s (by simp [hp]) hb, acceptedBody_eq_requireInit hpl, requireInit, if_pos hp,
    raise_eq_faultedWith]

/-- In every phase but OFF and FAULT, and not only in IDLE, a transaction command is accepted where BUSY = 0. -/
theorem exec_txnCommand_free {s : State} {i : Instr} {pl : List ByteSource} (hpl : txnPayload s i = some pl)
    (hoff : s.phase ≠ .off) (hp : s.phase ≠ .fault) (hb : s.busy = false) :
    exec i s = .next ({ s with img := imgAfter s i }.txnStarted pl) := by
  rw [exec_eq, accept_free _ s hp hb, acceptedBody_eq_requireInit hpl, requireInit, if_neg hoff]

/-- Settles O9: each check by the lemma that says what it leads to once the checks before it are passed. -/
theorem commandAcceptance : Obligations.CommandAcceptance := by
  intro w s
  refine ⟨hostTurn_writeCmd_fault w, hostTurn_writeCmd_busy w, fun hp hb => ⟨?_, ?_, ?_⟩⟩
  · exact fun hw => hostTurn_writeCmd_illegal hw hp hb
  · intro o c hd hbase
    rw [hostTurn_writeCmd_of_decode hd]
    exact exec_wram_of_base_none o c hp hb hbase
  · intro i hd
    rw [hostTurn_writeCmd_of_decode hd]
    refine ⟨fun pl hpl => ⟨?_, ?_⟩, ?_, ?_⟩
    · exact fun hoff => exec_txnCommand_off hpl hoff hb
    · exact fun hoff => exec_txnCommand_free hpl hoff hp hb
    · rintro rfl
      exact exec_init_free hp hb
    · rintro v f rfl
      exact exec_encode_free v f hp hb

/-! ## PHASE FAULT (R163) -/

theorem sequencerTurn_fault {s : State} (hp : s.phase = .fault) : sequencerTurn s = .next s := by
  simp only [sequencerTurn, hp]

theorem busAnswer_fault {s : State} (hp : s.phase = .fault) : busAnswer s = s := by
  simp only [busAnswer, hp]

/-- `t` is in PHASE FAULT with the fault and the wire symbols of `s`. -/
def State.FaultKept (s t : State) : Prop :=
  t.phase = .fault ∧ t.fcode = s.fcode ∧ t.faulted = s.faulted ∧ t.trace = s.trace

theorem faultKept_self {s : State} (hp : s.phase = .fault) : s.FaultKept s := ⟨hp, rfl, rfl, rfl⟩

/-- In PHASE FAULT the host can write BASE and its own memory and read the ports, none of which touches the fault. -/
theorem hostTurn_keeps_fault {a : HostAct} {s t : State} (hp : s.phase = .fault) (h : hostTurn a s = .next t) :
    s.FaultKept t := by
  obtain ⟨w, i, _, _, rfl⟩ | ⟨w, e, _, _, rfl⟩ | ⟨b, _, _, rfl⟩ | ⟨_, rfl⟩ | ⟨img, _, _, rfl⟩ | ⟨_, _, _, rfl⟩ |
    ⟨_, _, hnot, _⟩ | ⟨b, x, _, _, rfl⟩ := hostTurn_cases h
  · rw [accept_fault _ s hp]; exact faultKept_self hp
  · rw [accept_fault _ s hp]; exact faultKept_self hp
  · exact faultKept_self hp
  · exact faultKept_self hp
  · exact faultKept_self hp
  · exact faultKept_self hp
  · exact absurd hp hnot
  · exact faultKept_self hp

/-- Every move but power-on keeps the fault. -/
theorem makeMove_keeps_fault {m : Move} {s t : State} (hp : s.phase = .fault) (hm : m ≠ .powerOn)
    (h : makeMove m s = .next t) : s.FaultKept t := by
  cases m with
  | host a => exact hostTurn_keeps_fault hp h
  | sequencer =>
    obtain rfl := Host.Outcome.next.inj ((sequencerTurn_fault hp).symm.trans h)
    exact faultKept_self hp
  | busEnv =>
    obtain rfl := Host.Outcome.next.inj h
    rw [busAnswer_fault hp]
    exact faultKept_self hp
  | powerOn => exact absurd rfl hm

theorem step_keeps_fault {s t : State} (hp : s.phase = .fault) (hm : s.turns.head? ≠ some .powerOn)
    (h : step s = .next t) : s.FaultKept t := by
  obtain ⟨_, hseq⟩ | ⟨m, ms, hturns, hmove⟩ := step_cases h
  · obtain rfl := Host.Outcome.next.inj ((sequencerTurn_fault hp).symm.trans hseq)
    exact faultKept_self hp
  · have hne : m ≠ .powerOn := by simpa [hturns] using hm
    exact makeMove_keeps_fault (s := { s with turns := ms }) hp hne hmove

/-- Settles O11: in PHASE FAULT nothing but power-on changes the fault. -/
theorem faultIsStickyAndQuiescent : Obligations.FaultIsStickyAndQuiescent := by
  intro s hp
  refine ⟨?_, busAnswer_fault hp, fun w => hostTurn_writeCmd_fault w hp, rfl, ?_, ?_, ?_, ?_⟩
  · intro t h
    exact Host.Outcome.next.inj (h.symm.trans (sequencerTurn_fault hp))
  · exact fun img himg => congrArg Host.Outcome.next (hostReadImg_some himg)
  · exact fun himg => congrArg Host.Outcome.next (hostReadImg_none_fault himg hp)
  · exact fun t h hm => step_keeps_fault hp hm h
  · exact fun ts hturns => ⟨_, step_powerOn hturns, rfl, rfl, rfl⟩

end Sys2Proof.Machine
end

section
/-! A CMD write in the middle of a transaction (70_reset_and_hazards.md R185). -/

namespace Sys2Proof.Machine

/-- Settles O13: the write leads to `faultedWith .busyViolation`, a state in PHASE FAULT, where the sequencer rests. -/
theorem busyWriteFaults : Obligations.BusyWriteFaults := by
  intro s w hp hb
  refine ⟨s.faultedWith .busyViolation, hostTurn_writeCmd_busy w hp hb, rfl, rfl, rfl, rfl, rfl, ?_⟩
  intro u hu
  have hrest : sequencerTurn (s.faultedWith .busyViolation) = .next (s.faultedWith .busyViolation) :=
    sequencerTurn_fault rfl
  exact Host.Outcome.next.inj (hu.symm.trans hrest)

end Sys2Proof.Machine
end

section
/-! The round trips between commands and words (30_encoding.md Part A). -/

namespace Sys2Proof

/-- Settles O1: every operand fills its field, so well-formedness is not needed. -/
theorem decodeOfEncode : Obligations.DecodeOfEncode :=
  fun i _ => decode_encode i

/-! ## The bits outside a row's mask are the operands -/

theorem operandBits_wram (w : CmdWord) :
    (countField w).setWidth 32 <<< 16 ||| (originField w).setWidth 32 <<< 8 = w &&& ~~~Opcode.wram.mask := by
  apply BitVec.eq_of_getElem_eq
  intro i hi
  interval_cases i <;> simp [countField, originField, Opcode.mask]

theorem operandBits_value (w : CmdWord) :
    (valueField w).setWidth 32 <<< 16 ||| fBit (fField w) = w &&& ~~~0x0000FFEF := by
  have hf : fBit (fField w) = w &&& 0x10 := by
    apply BitVec.eq_of_getElem_eq
    intro i hi
    cases h : w.getLsbD 4 <;> interval_cases i <;> simp_all [fBit, fField]
  rw [hf]
  apply BitVec.eq_of_getElem_eq
  intro i hi
  interval_cases i <;> simp [valueField]

/-- A word is its bits outside a mask and its bits under it. -/
theorem and_not_or_and (w m : CmdWord) : w &&& ~~~m ||| w &&& m = w := by
  rw [← BitVec.and_or_distrib_left, BitVec.not_or_self, BitVec.and_allOnes]

/-- The word of a row's command is rebuilt from its operand bits and the row's pattern. -/
theorem encode_assemble {x : Opcode} {w : CmdWord} (h : x.hits w = true) : encode (x.assemble w) = w := by
  rw [hits_iff] at h
  have hw : w &&& ~~~x.mask ||| x.pattern = w := by rw [← h, and_not_or_and]
  cases x with
  | init => exact h.symm.trans BitVec.and_allOnes
  | enable => exact h.symm.trans BitVec.and_allOnes
  | disable => exact h.symm.trans BitVec.and_allOnes
  | wram => rwa [← operandBits_wram] at hw
  | encode => rwa [Opcode.mask, ← operandBits_value] at hw
  | draw => rwa [Opcode.mask, ← operandBits_value] at hw

/-- Settles O2: an accepted word hits the row of what it decodes to, and is rebuilt from that row. -/
theorem encodeOfDecode : Obligations.EncodeOfDecode := by
  intro w i h
  obtain ⟨hhits, hi⟩ := (decode_eq_ok_iff w i).mp h
  rw [← hi]
  exact encode_assemble hhits

end Sys2Proof
end

section
/-! What one move can do, for every claim about all steps (00_scope.md R4). -/

namespace Sys2Proof.Machine

/-- `Effect m s t`: the move `m`, made in `s`, leads to `t`. One constructor for each thing a move can do, with the guards of it
that claims about every step rest on. -/
inductive Effect : Move → State → State → Prop
  /-- PHASE FAULT ignores a CMD write (60_exceptions.md R163). -/
  | ignored {s w} (hp : s.phase = .fault) : Effect (.host (.writeCmd w)) s s
  /-- A CMD write faults (60_exceptions.md R161). -/
  | raised {s w c} (hp : s.phase ≠ .fault) (hc : c ≠ .none) : Effect (.host (.writeCmd w)) s (raise c s)
  | initialised {s w} (hd : decode w = .ok .init) (hp : s.phase ≠ .fault) (hb : s.busy = false) :
      Effect (.host (.writeCmd w)) s (initBody s)
  | encoded {s w v f} (hd : decode w = .ok (.encode v f)) (hp : s.phase ≠ .fault) (hb : s.busy = false) :
      Effect (.host (.writeCmd w)) s (encodeBody v f s)
  | started {s w i pl} (hd : decode w = .ok i) (hpl : txnPayload s i = some pl) (hoff : s.phase ≠ .off)
      (hp : s.phase ≠ .fault) (hb : s.busy = false) :
      Effect (.host (.writeCmd w)) s ({ s with img := imgAfter s i }.txnStarted pl)
  | baseWritten {s b} (hb : b < s.par.addrSpace) : Effect (.host (.writeBase b)) s { s with base := some b }
  | statusRead {s} : Effect (.host .readStatus) s { s with lastRead := some (.status s.status) }
  | imgRead {s r} : Effect (.host .readImg) s { s with lastRead := r }
  /-- IMG holds no value (60_exceptions.md R164). -/
  | imgFaulted {s r} (hp : s.phase ≠ .fault) : Effect (.host .readImg) s (raise .imgUnwritten { s with lastRead := r })
  | memWritten {s a b} (ha : a < s.par.addrSpace) : Effect (.host (.writeMem a b)) s { s with hmem := s.hmem.write a b }
  /-- A turn without a step: outside the wait states, and the hold of SpinForever (40_bus_transport.md R86). -/
  | rested {s} : Effect .sequencer s s
  | counted {s n} (hw : s.phase.isWait = true) (hn : s.par.waitPolicy = .bounded n) (hlt : s.polls + 1 < n) :
      Effect .sequencer s { s with polls := s.polls + 1 }
  | timedOut {s n} (hw : s.phase.isWait = true) (ha : s.awaited = false) (hn : s.par.waitPolicy = .bounded n) :
      Effect .sequencer s (timeOut s)
  | addrSent {s} (hp : s.phase = .wSB) : Effect .sequencer s (sendAddress 0 (consumeSB s))
  | firstSent {s x b} (hp : s.phase = .wAddr) (hx : s.pl[0]? = some x) (hf : s.fetch x = some b) :
      Effect .sequencer s { sendByte b (consumeAddr s) with idx := 1 }
  | emptyEnded {s} (hp : s.phase = .wAddr) (hpl : s.pl = []) : Effect .sequencer s (finishTxn (consumeAddr s))
  | nextSent {s x b} (hp : s.phase = .wBtf) (hx : s.pl[s.idx]? = some x) (hf : s.fetch x = some b) :
      Effect .sequencer s { sendByte b (consumeBtf s) with idx := s.idx + 1 }
  | ended {s} (hp : s.phase = .wBtf) : Effect .sequencer s (finishTxn (consumeBtf s))
  | answered {s} : Effect .busEnv s (busAnswer s)
  | poweredOn {s} : Effect .powerOn s (powerOnReset s)

/-- A CMD write, behind the first two checks (60_exceptions.md R161). -/
theorem effect_accept {w : CmdWord} {s : State} {body : State → State}
    (h : s.phase ≠ .fault → s.busy = false → Effect (.host (.writeCmd w)) s (body s)) :
    Effect (.host (.writeCmd w)) s (accept body s) := by
  obtain ⟨hp, e⟩ | ⟨hp, _, e⟩ | ⟨hp, hb, e⟩ := accept_cases body s <;> rw [e]
  · exact .ignored hp
  · exact .raised hp (by decide)
  · exact h hp hb

theorem effect_acceptedBody {w : CmdWord} {i : Instr} {s : State} (hd : decode w = .ok i) (hp : s.phase ≠ .fault)
    (hb : s.busy = false) : Effect (.host (.writeCmd w)) s (acceptedBody i s) := by
  obtain ⟨c, hc, e⟩ | ⟨rfl, e⟩ | ⟨v, f, rfl, e⟩ | ⟨hoff, v, f, rfl, e⟩ | ⟨hoff, rfl, e⟩ | ⟨hoff, rfl, e⟩ |
    ⟨hoff, o, c, b, rfl, hbase, e⟩ := acceptedBody_cases i s <;> rw [e]
  · exact .raised hp hc
  · exact .initialised hd hp hb
  · exact .encoded hd hp hb
  · exact .started hd (txnPayload_draw s v f) hoff hp hb
  · exact .started hd rfl hoff hp hb
  · exact .started hd rfl hoff hp hb
  · exact .started hd (txnPayload_wram o c hbase) hoff hp hb

theorem effect_of_hostTurn {a : HostAct} {s t : State} (h : hostTurn a s = .next t) : Effect (.host a) s t := by
  obtain ⟨w, i, rfl, hd, rfl⟩ | ⟨w, e, rfl, _, rfl⟩ | ⟨b, rfl, hb, rfl⟩ | ⟨rfl, rfl⟩ | ⟨img, rfl, _, rfl⟩ |
    ⟨rfl, _, _, rfl⟩ | ⟨rfl, _, hp, rfl⟩ | ⟨b, x, rfl, hb, rfl⟩ := hostTurn_cases h
  · exact effect_accept (effect_acceptedBody hd)
  · exact effect_accept fun hp _ => .raised hp (by decide)
  · exact .baseWritten hb
  · exact .statusRead
  · exact .imgRead
  · exact .imgRead
  · exact .imgFaulted hp
  · exact .memWritten hb

theorem effect_of_sequencerTurn {s t : State} (h : sequencerTurn s = .next t) : Effect .sequencer s t := by
  obtain ⟨_, rfl⟩ | ⟨hw, ha, rfl⟩ | ⟨hp, _, rfl⟩ | ⟨x, b, hp, _, hx, hf, rfl⟩ | ⟨hp, _, hpl, rfl⟩ |
    ⟨x, b, hp, _, hx, hf, rfl⟩ | ⟨hp, _, _, rfl⟩ := sequencerTurn_cases h
  · exact .rested
  · obtain ⟨_, e⟩ | ⟨n, hn, hlt, e⟩ | ⟨n, hn, _, e⟩ := missedPoll_cases s <;> rw [e]
    · exact .rested
    · exact .counted hw hn hlt
    · exact .timedOut hw ha hn
  · exact .addrSent hp
  · exact .firstSent hp hx hf
  · exact .emptyEnded hp hpl
  · exact .nextSent hp hx hf
  · exact .ended hp

theorem effect_of_makeMove {m : Move} {s t : State} (h : makeMove m s = .next t) : Effect m s t := by
  cases m with
  | host a => exact effect_of_hostTurn h
  | sequencer => exact effect_of_sequencerTurn h
  | busEnv => cases h; exact .answered
  | powerOn => cases h; exact .poweredOn

/-- The move of the next step: the first of `turns`, or the sequencer's where none is left (notes/assumptions/1.md). -/
def State.nextMove (s : State) : Move := s.turns.head?.getD .sequencer

theorem head?_of_nextMove {s : State} {m : Move} (h : s.nextMove = m) (hm : m ≠ .sequencer) : s.turns.head? = some m := by
  cases ht : s.turns with
  | nil => simp_all [State.nextMove]
  | cons x xs => simpa [State.nextMove, ht] using h

/-- A step is the effect of its move, in the state that move has been taken from. -/
theorem effect_of_step {s t : State} (h : step s = .next t) : Effect s.nextMove { s with turns := s.turns.tail } t := by
  obtain ⟨hturns, hseq⟩ | ⟨m, ms, hturns, hmove⟩ := step_cases h
  · have hs : { s with turns := s.turns.tail } = s := by rw [hturns, List.tail_nil, ← hturns]
    have hm : s.nextMove = .sequencer := by simp [State.nextMove, hturns]
    rw [hs, hm]
    exact effect_of_sequencerTurn hseq
  · have hm : s.nextMove = m := by simp [State.nextMove, hturns]
    rw [hm, hturns]
    exact effect_of_makeMove hmove

/-- A property that does not look at the moves to come is kept by every step if every effect keeps it. -/
theorem step_keeps {P : State → Prop} (hturns : ∀ (s : State) ts, P s → P { s with turns := ts })
    (heffect : ∀ m s t, Effect m s t → P s → P t) {s t : State} (hs : P s) (h : step s = .next t) : P t :=
  heffect _ _ t (effect_of_step h) (hturns s _ hs)

end Sys2Proof.Machine
end

section
/-! The invariant of the state, operation by operation (10_state.md, 40_bus_transport.md R92). -/

namespace Sys2Proof.Machine

/-! ## What the invariant says of a phase -/

theorem bounded_pos {p : Params} {n : Nat} (h : p.wellFormed = true) (hn : p.waitPolicy = .bounded n) : 0 < n := by
  simp only [Params.wellFormed, hn, WaitPolicy.wellFormed, Bool.and_eq_true, decide_eq_true_eq] at h
  exact h.2

theorem isWait_iff {p : Phase} : p.isWait = true ↔ p = .wSB ∨ p = .wAddr ∨ p = .wBtf := by
  cases p <;> simp [Phase.isWait]

theorem isWait_wSB {s : State} (hp : s.phase = .wSB) : s.phase.isWait = true := isWait_iff.mpr (.inl hp)

theorem isWait_wAddr {s : State} (hp : s.phase = .wAddr) : s.phase.isWait = true := isWait_iff.mpr (.inr (.inl hp))

theorem isWait_wBtf {s : State} (hp : s.phase = .wBtf) : s.phase.isWait = true := isWait_iff.mpr (.inr (.inr hp))

theorem ne_fault_of_isWait {p : Phase} (h : p.isWait = true) : p ≠ .fault := by
  rintro rfl
  cases h

theorem ne_off_of_isWait {p : Phase} (h : p.isWait = true) : p ≠ .off := by
  rintro rfl
  cases h

section
variable {s : State} (h : s.Inv)
include h

theorem faulted_of_inv (hp : s.phase ≠ .fault) : s.faulted = false := by
  simpa [hp] using h.faulted_iff

theorem fcode_of_inv (hp : s.phase ≠ .fault) : s.fcode = .none := h.fcode_iff.mpr hp

theorem busy_of_isWait (hw : s.phase.isWait = true) : s.busy = true := h.busy_iff.mpr hw

/-- A block that is not busy and neither in OFF nor in FAULT is in IDLE. -/
theorem idle_of_free (hoff : s.phase ≠ .off) (hf : s.phase ≠ .fault) (hb : s.busy = false) : s.phase = .idle := by
  have hbusy := h.busy_iff
  cases hp : s.phase <;> simp_all [Phase.isWait]

end

/-! ## Poll count and event flags -/

theorem inv_zeroPolls {s : State} (h : s.Inv) : State.Inv { s with polls := 0 } :=
  { h with
    polls_spin := fun _ => rfl
    polls_lt := fun _ => bounded_pos h.par_ok }

/-- No event flag is set. -/
def State.flagsClear (s : State) : Prop := s.evSB = false ∧ s.evAddr = false ∧ s.evBtf = false

/-- A wait whose own flag is 0 has no flag set at all. -/
theorem flagsClear_of_not_awaited {s : State} (h : s.Inv) (hw : s.phase.isWait = true) (ha : s.awaited = false) :
    s.flagsClear := by
  have hsb := h.evSB_phase
  have haddr := h.evAddr_phase
  have hbtf := h.evBtf_phase
  unfold State.awaited at ha
  cases hp : s.phase <;> simp_all [Phase.isWait, State.flagsClear]

theorem inv_consumeSB {s : State} (h : s.Inv) : (consumeSB s).Inv := by
  obtain ⟨_, _, haddrBtf⟩ := h.events_le_one
  exact
    { inv_zeroPolls h with
      evSB_phase := nofun
      events_le_one := ⟨rfl, rfl, haddrBtf⟩ }

theorem inv_consumeAddr {s : State} (h : s.Inv) : (consumeAddr s).Inv := by
  obtain ⟨_, hsbBtf, _⟩ := h.events_le_one
  exact
    { inv_zeroPolls h with
      evAddr_phase := nofun
      events_le_one := ⟨Bool.and_false _, hsbBtf, rfl⟩ }

theorem inv_consumeBtf {s : State} (h : s.Inv) : (consumeBtf s).Inv := by
  obtain ⟨hsbAddr, _, _⟩ := h.events_le_one
  exact
    { inv_zeroPolls h with
      evBtf_phase := nofun
      events_le_one := ⟨hsbAddr, Bool.and_false _, Bool.and_false _⟩ }

theorem flagsClear_consumeSB {s : State} (h : s.Inv) (hp : s.phase = .wSB) : (consumeSB s).flagsClear :=
  flagsClear_of_not_awaited (inv_consumeSB h) (isWait_wSB hp) (by simp [State.awaited, hp])

theorem flagsClear_consumeAddr {s : State} (h : s.Inv) (hp : s.phase = .wAddr) : (consumeAddr s).flagsClear :=
  flagsClear_of_not_awaited (inv_consumeAddr h) (isWait_wAddr hp) (by simp [State.awaited, hp])

theorem flagsClear_consumeBtf {s : State} (h : s.Inv) (hp : s.phase = .wBtf) : (consumeBtf s).flagsClear :=
  flagsClear_of_not_awaited (inv_consumeBtf h) (isWait_wBtf hp) (by simp [State.awaited, hp])

theorem busAnswer_of_not_isWait {s : State} (hw : s.phase.isWait = false) : busAnswer s = s := by
  cases hp : s.phase <;> simp_all [busAnswer, Phase.isWait]

/-- A flag that is set already stays set (40_bus_transport.md R87). -/
theorem busAnswer_of_awaited {s : State} (ha : s.awaited = true) : busAnswer s = s := by
  cases hw : s.phase.isWait with
  | false => exact busAnswer_of_not_isWait hw
  | true =>
    obtain hp | hp | hp := isWait_iff.mp hw
    · rw [busAnswer_wSB hp]
      cases s
      simp_all [State.awaited]
    · rw [busAnswer_wAddr hp]
      cases s
      simp_all [State.awaited]
    · rw [busAnswer_wBtf hp]
      cases s
      simp_all [State.awaited]

/-- BusEnv sets the flag of the wait in progress, and no other is set. -/
theorem inv_busAnswer {s : State} (h : s.Inv) : (busAnswer s).Inv := by
  cases hw : s.phase.isWait with
  | false => rwa [busAnswer_of_not_isWait hw]
  | true =>
    cases ha : s.awaited with
    | true => rwa [busAnswer_of_awaited ha]
    | false =>
      obtain ⟨hsb, haddr, hbtf⟩ := flagsClear_of_not_awaited h hw ha
      obtain hp | hp | hp := isWait_iff.mp hw
      · rw [busAnswer_wSB hp]
        exact { h with evSB_phase := fun _ => .inl hp, events_le_one := by simp [haddr, hbtf] }
      · rw [busAnswer_wAddr hp]
        exact { h with evAddr_phase := fun _ => .inl hp, events_le_one := by simp [hsb, hbtf] }
      · rw [busAnswer_wBtf hp]
        exact { h with evBtf_phase := fun _ => .inl hp, events_le_one := by simp [hsb, haddr] }

/-! ## Moves between phases -/

/-- A transaction moves on to another wait, its flags consumed. -/
theorem inv_nextWait {s : State} (h : s.Inv) (hw : s.phase.isWait = true) (hc : s.flagsClear) {p : Phase} {k : Nat}
    (l : List WireSym) (hp : p.isWait = true) (hzero : p = .wSB ∨ p = .wAddr → k = 0) (hpos : p = .wBtf → 0 < k)
    (hle : k ≤ s.pl.length) : State.Inv { s with trace := l, phase := p, idx := k } := by
  obtain ⟨hsb, haddr, hbtf⟩ := hc
  have hf := ne_fault_of_isWait hw
  have hpf := ne_fault_of_isWait hp
  have hpo := ne_off_of_isWait hp
  exact
    { h with
      faulted_iff := by simp [faulted_of_inv h hf, hpf]
      busy_iff := by simp [busy_of_isWait h hw, hp]
      fcode_iff := by simp [fcode_of_inv h hf, hpf]
      ready_of := fun _ => h.ready_of (.inr hw)
      ready_off := fun e => absurd e hpo
      off_trace := fun e => absurd e hpo
      evSB_phase := by simp [hsb]
      evAddr_phase := by simp [haddr]
      evBtf_phase := by simp [hbtf]
      payload := fun _ => h.payload hw
      idx_zero := hzero
      idx_pos := hpos
      idx_le := hle }

/-- A transaction ends, by its stop or by a timeout. -/
theorem inv_backToIdle {s : State} (h : s.Inv) (hw : s.phase.isWait = true) (hc : s.flagsClear) (l : List WireSym)
    {b : Bool} (hb : b = true → s.par.waitPolicy ≠ .spinForever) :
    State.Inv { s with trace := l, timeout := b, phase := .idle, busy := false } := by
  obtain ⟨hsb, haddr, hbtf⟩ := hc
  have hf := ne_fault_of_isWait hw
  exact
    { h with
      faulted_iff := by simp [faulted_of_inv h hf]
      busy_iff := by simp [Phase.isWait]
      fcode_iff := by simp [fcode_of_inv h hf]
      ready_of := fun _ => h.ready_of (.inr hw)
      ready_off := nofun
      off_trace := nofun
      evSB_phase := by simp [hsb]
      evAddr_phase := by simp [haddr]
      evBtf_phase := by simp [hbtf]
      timeout_idle := fun e => ⟨rfl, hb e⟩
      payload := nofun
      idx_zero := by simp
      idx_pos := nofun }

theorem inv_timeOut {s : State} (h : s.Inv) (hw : s.phase.isWait = true) (ha : s.awaited = false)
    (hn : s.par.waitPolicy ≠ .spinForever) : (timeOut s).Inv :=
  inv_backToIdle (inv_zeroPolls h) hw (flagsClear_of_not_awaited (inv_zeroPolls h) hw ha) _ fun _ => hn

theorem inv_finishTxn {s : State} (h : s.Inv) (hw : s.phase.isWait = true) (hc : s.flagsClear) : (finishTxn s).Inv :=
  inv_backToIdle h hw hc _ fun e => (h.timeout_idle e).2

theorem inv_raise {s : State} (h : s.Inv) {c : FaultCode} (hc : c ≠ .none) : (raise c s).Inv :=
  { h with
    faulted_iff := by simp
    busy_iff := by simp [Phase.isWait]
    fcode_iff := by simp [hc]
    ready_of := by simp [Phase.isWait]
    ready_off := nofun
    off_trace := nofun
    evSB_phase := fun _ => .inr rfl
    evAddr_phase := fun _ => .inr rfl
    evBtf_phase := fun _ => .inr rfl
    timeout_idle := fun e => ⟨rfl, (h.timeout_idle e).2⟩
    payload := nofun
    idx_zero := by simp
    idx_pos := nofun }

theorem inv_initBody {s : State} (h : s.Inv) (hp : s.phase ≠ .fault) (hb : s.busy = false) : (initBody s).Inv :=
  { h with
    faulted_iff := by simp [faulted_of_inv h hp]
    busy_iff := by simp [hb, Phase.isWait]
    fcode_iff := by simp [fcode_of_inv h hp]
    ready_of := fun _ => rfl
    ready_off := nofun
    off_trace := nofun
    clk_iff := rfl
    pins_iff := rfl
    pe_iff := rfl
    swrst_zero := rfl
    cfg_on := fun _ => rfl
    cfg_off := nofun
    evSB_phase := nofun
    evAddr_phase := nofun
    evBtf_phase := nofun
    events_le_one := ⟨rfl, rfl, rfl⟩
    timeout_idle := nofun
    payload := nofun
    idx_zero := by simp
    idx_pos := nofun
    polls_spin := fun _ => rfl
    polls_lt := fun _ => bounded_pos h.par_ok }

theorem inv_txnStarted {s : State} (h : s.Inv) (hp : s.phase = .idle) {pl : List ByteSource} (hpl : payloadOk pl)
    (img : Option Image) : ({ s with img := img }.txnStarted pl).Inv := by
  have hf : s.phase ≠ .fault := by simp [hp]
  have hr := h.ready_of (.inl hp)
  exact
    { h with
      faulted_iff := by simp [State.txnStarted, faulted_of_inv h hf]
      busy_iff := by simp [State.txnStarted, Phase.isWait]
      fcode_iff := by simp [State.txnStarted, fcode_of_inv h hf]
      ready_of := fun _ => hr
      ready_off := nofun
      off_trace := nofun
      pe_iff := hr.symm
      swrst_zero := rfl
      cfg_on := fun _ => rfl
      cfg_off := nofun
      evSB_phase := nofun
      evAddr_phase := nofun
      evBtf_phase := nofun
      events_le_one := ⟨rfl, rfl, rfl⟩
      timeout_idle := nofun
      payload := fun _ => hpl
      idx_zero := fun _ => rfl
      idx_pos := nofun
      idx_le := Nat.zero_le _
      polls_spin := fun _ => rfl
      polls_lt := fun _ => bounded_pos h.par_ok }

/-- Power-on reset needs nothing of the block's own elements (70_reset_and_hazards.md R180). -/
theorem inv_powerOnReset {s : State} (hpar : s.par.wellFormed = true) (hwf : s.hmem.wf)
    (hlt : ∀ a b, (a, b) ∈ s.hmem → a < s.par.addrSpace) : (powerOnReset s).Inv where
  par_ok := hpar
  faulted_iff := by simp [State.reset]
  busy_iff := by simp [State.reset, Phase.isWait]
  fcode_iff := by simp [State.reset]
  ready_of := by simp [State.reset, Phase.isWait]
  ready_off := fun _ => rfl
  off_trace := fun _ => rfl
  clk_iff := rfl
  pins_iff := rfl
  pe_iff := rfl
  swrst_zero := rfl
  cfg_on := nofun
  cfg_off := fun _ => rfl
  evSB_phase := nofun
  evAddr_phase := nofun
  evBtf_phase := nofun
  events_le_one := ⟨rfl, rfl, rfl⟩
  timeout_idle := nofun
  base_lt := nofun
  mem_wf := hwf
  mem_lt := hlt
  payload := nofun
  idx_zero := fun _ => rfl
  idx_pos := nofun
  idx_le := Nat.le_refl _
  polls_spin := fun _ => rfl
  polls_lt := fun _ => bounded_pos hpar

/-! ## Host memory and host reads -/

theorem inv_lastRead {s : State} (h : s.Inv) (r : Option ReadReply) : State.Inv { s with lastRead := r } := { h with }

theorem inv_memWritten {s : State} (h : s.Inv) {a : Nat} (b : Byte) (ha : a < s.par.addrSpace) :
    State.Inv { s with hmem := s.hmem.write a b } :=
  { h with
    mem_wf := memory_write_wf s.hmem a b h.mem_wf
    mem_lt := by
      intro x y hxy
      obtain e | hold := memory_write_mem s.hmem a b (x, y) hxy
      · cases e
        exact ha
      · exact h.mem_lt x y hold }

/-! ## Every step -/

/-- Every payload has the shape of 41_display_protocol.md R105. -/
theorem payloadOk_of_txnPayload {s : State} {i : Instr} {pl : List ByteSource} (hpl : txnPayload s i = some pl) :
    payloadOk pl := by
  cases i with
  | init => cases hpl
  | encode v f => cases hpl
  | enable => cases hpl; exact ⟨⟨_, _, rfl⟩, by simp⟩
  | disable => cases hpl; exact ⟨⟨_, _, rfl⟩, by simp⟩
  | draw v f => cases hpl; exact ⟨⟨_, _, rfl⟩, by simp⟩
  | wram o c =>
    obtain ⟨b, _, rfl⟩ := Option.map_eq_some_iff.mp hpl
    have hc : c.toNat < 256 := c.isLt
    have hlen : (wramPayload o c b).length = c.toNat + 2 := by simp [wramPayload]
    exact ⟨⟨_, _, rfl⟩, hlen.trans_le (by omega)⟩

theorem lt_length_of_getElem? {pl : List ByteSource} {k : Nat} {x : ByteSource} (h : pl[k]? = some x) : k < pl.length :=
  (List.getElem?_eq_some_iff.mp h).1

theorem inv_of_effect {m : Move} {s t : State} (h : s.Inv) (he : Effect m s t) : t.Inv := by
  cases he with
  | ignored => exact h
  | raised hp hc => exact inv_raise h hc
  | initialised hd hp hb => exact inv_initBody h hp hb
  | encoded hd hp hb => exact { h with timeout_idle := nofun }
  | started hd hpl hoff hp hb => exact inv_txnStarted h (idle_of_free h hoff hp hb) (payloadOk_of_txnPayload hpl) _
  | baseWritten hb => exact { h with base_lt := fun _ e => Option.some.inj e ▸ hb }
  | statusRead => exact inv_lastRead h _
  | imgRead => exact inv_lastRead h _
  | imgFaulted hp => exact inv_raise (inv_lastRead h _) (by decide)
  | memWritten ha => exact inv_memWritten h _ ha
  | rested => exact h
  | counted hw hn hlt =>
    exact
      { h with
        polls_spin := by simp [hn]
        polls_lt := fun k hk => by simp_all }
  | timedOut hw ha hn => exact inv_timeOut h hw ha (by simp [hn])
  | addrSent hp =>
    exact inv_nextWait (inv_consumeSB h) (isWait_wSB hp) (flagsClear_consumeSB h hp) _ rfl
      (fun _ => h.idx_zero (.inl hp)) nofun h.idx_le
  | firstSent hp hx hf =>
    exact inv_nextWait (inv_consumeAddr h) (isWait_wAddr hp) (flagsClear_consumeAddr h hp) _ rfl
      (by simp) (fun _ => Nat.one_pos) (lt_length_of_getElem? hx)
  | emptyEnded hp hpl =>
    exact inv_finishTxn (inv_consumeAddr h) (isWait_wAddr hp) (flagsClear_consumeAddr h hp)
  | nextSent hp hx hf =>
    exact inv_nextWait (inv_consumeBtf h) (isWait_wBtf hp) (flagsClear_consumeBtf h hp) _ rfl
      (by simp) (fun _ => Nat.succ_pos _) (lt_length_of_getElem? hx)
  | ended hp =>
    exact inv_finishTxn (inv_consumeBtf h) (isWait_wBtf hp) (flagsClear_consumeBtf h hp)
  | answered => exact inv_busAnswer h
  | poweredOn => exact inv_powerOnReset h.par_ok h.mem_wf h.mem_lt

/-- Settles O57: every effect keeps the invariant, and the moves to come are not in it. -/
theorem stepKeepsInvariant : Obligations.StepKeepsInvariant :=
  fun _ _ hs h => step_keeps (P := State.Inv) (fun _ _ hi => { hi with }) (fun _ _ _ he hi => inv_of_effect hi he) hs h

end Sys2Proof.Machine
end

section
/-! The shape of TRACE: whole frames, then the frame in progress (30_encoding.md R70, 40_bus_transport.md R88, R91). -/

namespace Sys2Proof.Machine

/-! ## The frame in progress, phase by phase -/

theorem openFrame_idle {s : State} {l : List WireSym} (hp : s.phase = .idle) : s.openFrame l ↔ l = [] := by
  simp only [State.openFrame, hp]

theorem openFrame_off {s : State} {l : List WireSym} (hp : s.phase = .off) : s.openFrame l ↔ l = [] := by
  simp only [State.openFrame, hp]

theorem openFrame_wSB {s : State} {l : List WireSym} (hp : s.phase = .wSB) : s.openFrame l ↔ l = [.start] := by
  simp only [State.openFrame, hp]

theorem openFrame_wAddr {s : State} {l : List WireSym} (hp : s.phase = .wAddr) :
    s.openFrame l ↔ l = [.start, .byte (addrByte s.par 0)] := by
  simp only [State.openFrame, hp]

theorem openFrame_wBtf {s : State} {l : List WireSym} (hp : s.phase = .wBtf) :
    s.openFrame l ↔ ∃ bytes : List Byte, bytes.length = s.idx ∧ agrees s.pl bytes ∧
      l = .start :: .byte (addrByte s.par 0) :: bytes.map .byte := by
  simp only [State.openFrame, hp]

theorem openFrame_fault {s : State} {l : List WireSym} (hp : s.phase = .fault) :
    s.openFrame l ↔ l = [] ∨ l = [.start] ∨
      ∃ bytes : List Byte, l = .start :: .byte (addrByte s.par 0) :: bytes.map .byte := by
  simp only [State.openFrame, hp]

/-- The frame in progress depends on PHASE, the parameters, PL and IDX alone. -/
theorem openFrame_congr {s t : State} {l : List WireSym} (hphase : t.phase = s.phase) (hpar : t.par = s.par)
    (hpl : t.pl = s.pl) (hidx : t.idx = s.idx) : t.openFrame l ↔ s.openFrame l := by
  simp only [State.openFrame, hphase, hpar, hpl, hidx]

/-- A fault abandons the frame in progress as it is (60_exceptions.md R162). -/
theorem openFrame_raise {s : State} {l : List WireSym} (c : FaultCode) (h : s.openFrame l) : (raise c s).openFrame l := by
  rw [openFrame_fault rfl]
  cases hp : s.phase with
  | off => exact .inl ((openFrame_off hp).mp h)
  | idle => exact .inl ((openFrame_idle hp).mp h)
  | wSB => exact .inr (.inl ((openFrame_wSB hp).mp h))
  | wAddr => exact .inr (.inr ⟨[], (openFrame_wAddr hp).mp h⟩)
  | wBtf =>
    obtain ⟨bytes, _, _, hl⟩ := (openFrame_wBtf hp).mp h
    exact .inr (.inr ⟨bytes, hl⟩)
  | fault => exact (openFrame_fault hp).mp h

/-- A block that is neither busy nor in FAULT has no frame in progress. -/
theorem eq_nil_of_openFrame {s : State} {l : List WireSym} (hi : s.Inv) (hp : s.phase ≠ .fault) (hb : s.busy = false)
    (h : s.openFrame l) : l = [] := by
  by_cases hoff : s.phase = .off
  · exact (openFrame_off hoff).mp h
  · exact (openFrame_idle (idle_of_free hi hoff hp hb)).mp h

/-! ## Payload bytes and literals -/

/-- A byte that is sent agrees with its source, if that is a literal. -/
theorem agrees_append {s : State} {bytes : List Byte} {x : ByteSource} {b : Byte} (h : agrees s.pl bytes)
    (hx : s.pl[bytes.length]? = some x) (hf : s.fetch x = some b) : agrees s.pl (bytes ++ [b]) := by
  intro k c hk hc
  have hk' : k < bytes.length ∨ k = bytes.length := by simp at hk; omega
  obtain hlt | rfl := hk'
  · rw [List.getElem?_append_left hlt]
    exact h k c hlt hc
  · obtain rfl : x = .lit c := Option.some.inj (hx.symm.trans hc)
    simpa using hf.symm

theorem agrees_nil (pl : List ByteSource) : agrees pl [] := nofun

/-! ## Frames that are over -/

/-- The stop condition after the last payload byte makes a whole frame. -/
theorem isFrame_of_stop {s : State} {l : List WireSym} (hi : s.Inv) (hp : s.phase = .wBtf) (h : s.openFrame l) :
    IsFrame s.par (l ++ [.stop]) := by
  obtain ⟨bytes, hlen, _, rfl⟩ := (openFrame_wBtf hp).mp h
  have hpos := hi.idx_pos hp
  exact .inl ⟨bytes, List.ne_nil_of_length_pos (hlen ▸ hpos), rfl⟩

/-- A bounded wait that expires ends the frame wherever it stands (40_bus_transport.md R91). -/
theorem isFrame_of_timeOut {s : State} {l : List WireSym} (hi : s.Inv) (hw : s.phase.isWait = true)
    (hn : s.par.waitPolicy ≠ .spinForever) (h : s.openFrame l) : IsFrame s.par (l ++ [.stop]) := by
  obtain hp | hp | hp := isWait_iff.mp hw
  · rw [(openFrame_wSB hp).mp h]
    exact .inr ⟨hn, .inl rfl⟩
  · rw [(openFrame_wAddr hp).mp h]
    exact .inr ⟨hn, .inr rfl⟩
  · exact isFrame_of_stop hi hp h

/-! ## What a step does to the shape -/

/-- The frame in progress goes on by the symbols `more`. -/
theorem traceShape_extend {s t : State} {more : List WireSym} (h : s.TraceShape) (hpar : t.par = s.par)
    (htrace : t.trace = s.trace ++ more) (hopen : ∀ l, s.openFrame l → t.openFrame (l ++ more)) : t.TraceShape := by
  obtain ⟨frames, l, hframes, hl, hs⟩ := h
  refine ⟨frames, l ++ more, hpar ▸ hframes, hopen l hl, ?_⟩
  rw [htrace, hs, List.append_assoc]

/-- The frame in progress is closed by the symbols `more`. -/
theorem traceShape_close {s t : State} {more : List WireSym} (h : s.TraceShape) (hpar : t.par = s.par)
    (htrace : t.trace = s.trace ++ more) (hframe : ∀ l, s.openFrame l → IsFrame s.par (l ++ more)) (hopen : t.openFrame []) :
    t.TraceShape := by
  obtain ⟨frames, l, hframes, hl, hs⟩ := h
  refine ⟨frames ++ [l ++ more], [], ?_, hopen, ?_⟩
  · rw [hpar]
    intro x hx
    obtain hx | hx := List.mem_append.mp hx
    · exact hframes x hx
    · rw [List.mem_singleton.mp hx]
      exact hframe l hl
  · simp [htrace, hs]

/-- Nothing is put on the wire and the frame in progress stays as it is. -/
theorem traceShape_keep {s t : State} (h : s.TraceShape) (hpar : t.par = s.par) (htrace : t.trace = s.trace)
    (hopen : ∀ l, s.openFrame l → t.openFrame l) : t.TraceShape :=
  traceShape_extend (more := []) h hpar (by simpa using htrace) (by simpa using hopen)

theorem traceShape_of_effect {m : Move} {s t : State} (hi : s.Inv) (h : s.TraceShape) (he : Effect m s t) :
    t.TraceShape := by
  cases he with
  | ignored => exact h
  | raised hp hc => exact traceShape_keep h rfl rfl fun _ => openFrame_raise _
  | initialised hd hp hb => exact traceShape_keep h rfl rfl fun _ hl => eq_nil_of_openFrame hi hp hb hl
  | encoded hd hp hb => exact h
  | started hd hpl hoff hp hb =>
    refine traceShape_extend h rfl rfl fun l hl => ?_
    rw [eq_nil_of_openFrame hi hp hb hl, openFrame_wSB rfl]
    rfl
  | baseWritten => exact h
  | statusRead => exact h
  | imgRead => exact h
  | imgFaulted hp => exact traceShape_keep h rfl rfl fun _ => openFrame_raise .imgUnwritten
  | memWritten => exact h
  | rested => exact h
  | counted => exact h
  | timedOut hw ha hn => exact traceShape_close h rfl rfl (fun _ => isFrame_of_timeOut hi hw (by simp [hn])) rfl
  | addrSent hp =>
    refine traceShape_extend h rfl rfl fun l hl => ?_
    rw [(openFrame_wSB hp).mp hl, openFrame_wAddr rfl]
    rfl
  | firstSent hp hx hf =>
    refine traceShape_extend h rfl rfl fun l hl => ?_
    rw [(openFrame_wAddr hp).mp hl, openFrame_wBtf rfl]
    exact ⟨[_], rfl, agrees_append (agrees_nil _) hx hf, rfl⟩
  | emptyEnded hp hpl =>
    obtain ⟨⟨b, rest, hcons⟩, _⟩ := hi.payload (isWait_wAddr hp)
    rw [hpl] at hcons
    cases hcons
  | nextSent hp hx hf =>
    refine traceShape_extend h rfl rfl fun l hl => ?_
    obtain ⟨bytes, hlen, hagrees, rfl⟩ := (openFrame_wBtf hp).mp hl
    rw [← hlen] at hx
    rw [openFrame_wBtf rfl]
    refine ⟨bytes ++ [_], ?_, agrees_append hagrees hx hf, ?_⟩
    · simpa using hlen
    · simp
  | ended hp => exact traceShape_close h rfl rfl (fun _ => isFrame_of_stop hi hp) rfl
  | answered =>
    exact traceShape_keep h (busAnswer_par s) (busAnswer_trace s) fun _ =>
      (openFrame_congr (busAnswer_phase s) (busAnswer_par s) (busAnswer_pl s) (busAnswer_idx s)).mpr
  | poweredOn => exact ⟨[], [], nofun, rfl, rfl⟩

/-- Settles O59: every effect extends the frame in progress, closes it, or leaves TRACE as it is. -/
theorem stepKeepsTraceShape : Obligations.StepKeepsTraceShape := by
  intro s t hi hs h
  have hkept : t.Inv ∧ t.TraceShape :=
    step_keeps (P := fun s => s.Inv ∧ s.TraceShape) (fun _ _ ⟨hi, hs⟩ => ⟨{ hi with }, hs⟩)
      (fun _ _ _ he ⟨hi, hs⟩ => ⟨inv_of_effect hi he, traceShape_of_effect hi hs he⟩) ⟨hi, hs⟩ h
  exact hkept.2

end Sys2Proof.Machine
end

section
/-! The sequencer: rows of the step table, waits that are not answered, and stops (40_bus_transport.md R86 to R92). -/

namespace Sys2Proof.Machine

/-! ## Stops (notes/assumptions/4.md, 6.md) -/

theorem sendPayload_eq_fault {k : Nat} {s : State} {r : Fault} (h : sendPayload k s = .fault r) :
    ∃ a, r = .stuckRead a ∧ s.memRead a = none := by
  obtain ⟨_, e⟩ | ⟨x, b, _, _, e⟩ | ⟨a, _, hnone, e⟩ := sendPayload_cases k s <;> rw [e] at h <;> cases h
  exact ⟨a, rfl, hnone⟩

theorem sequencerTurn_of_not_isWait {s : State} (hw : s.phase.isWait = false) : sequencerTurn s = .next s := by
  cases hp : s.phase <;> simp_all [sequencerTurn, Phase.isWait]

theorem sequencerTurn_missed {s : State} (hw : s.phase.isWait = true) (ha : s.awaited = false) :
    sequencerTurn s = .next (missedPoll s) := by
  obtain hp | hp | hp := isWait_iff.mp hw <;> simp_all [sequencerTurn, State.awaited]

/-- The sequencer is stuck only at a host memory read that is not admitted. -/
theorem sequencerTurn_eq_fault {s : State} {r : Fault} (h : sequencerTurn s = .fault r) :
    ∃ a, r = .stuckRead a ∧ s.memRead a = none := by
  cases hw : s.phase.isWait with
  | false => cases (sequencerTurn_of_not_isWait hw).symm.trans h
  | true =>
    cases ha : s.awaited with
    | false => cases (sequencerTurn_missed hw ha).symm.trans h
    | true =>
      obtain hp | hp | hp := isWait_iff.mp hw <;> simp only [State.awaited, hp] at ha
      · cases (sequencerTurn_wSB hp ha).symm.trans h
      · obtain ⟨a, hr, hnone⟩ := sendPayload_eq_fault ((sequencerTurn_wAddr hp ha).symm.trans h)
        exact ⟨a, hr, hnone⟩
      · obtain ⟨a, hr, hnone⟩ := sendPayload_eq_fault ((sequencerTurn_wBtf hp ha).symm.trans h)
        exact ⟨a, hr, hnone⟩

theorem hostWriteCmd_eq_next (w : CmdWord) (s : State) : ∃ t, hostWriteCmd w s = .next t := by
  obtain ⟨body, hbody⟩ := hostTurn_writeCmd_eq_accept w
  exact ⟨_, hbody s⟩

theorem hostTurn_eq_fault {a : HostAct} {s : State} {r : Fault} (h : hostTurn a s = .fault r) :
    ∃ x b, a = .writeMem x b ∧ r = .hostWriteOutside x ∧ s.par.addrSpace ≤ x := by
  cases a with
  | writeCmd w =>
    obtain ⟨t, ht⟩ := hostWriteCmd_eq_next w s
    cases ht.symm.trans h
  | writeBase b =>
    simp only [hostTurn, hostWriteBase] at h
    split at h <;> cases h
  | readStatus => cases h
  | readImg => cases h
  | writeMem x b =>
    simp only [hostTurn, hostWriteMem] at h
    split at h <;> cases h
    exact ⟨x, b, rfl, rfl, Nat.le_of_not_lt ‹_›⟩

theorem hostTurn_eq_refused {a : HostAct} {s : State} {r : Refusal} (h : hostTurn a s = .refused r) :
    ∃ x, a = .writeBase x ∧ r = .baseTooWide x ∧ s.par.addrSpace ≤ x := by
  cases a with
  | writeCmd w =>
    obtain ⟨t, ht⟩ := hostWriteCmd_eq_next w s
    cases ht.symm.trans h
  | writeBase x =>
    simp only [hostTurn, hostWriteBase] at h
    split at h <;> cases h
    exact ⟨x, rfl, rfl, Nat.le_of_not_lt ‹_›⟩
  | readStatus => cases h
  | readImg => cases h
  | writeMem x b =>
    simp only [hostTurn, hostWriteMem] at h
    split at h <;> cases h

theorem step_of_turns_nil {s : State} (h : s.turns = []) : step s = sequencerTurn s := by
  simp only [step, h]

theorem step_of_turns_cons {s : State} {m : Move} {ms : List Move} (h : s.turns = m :: ms) :
    step s = makeMove m { s with turns := ms } := by
  simp only [step, h]

/-- Settles O8: only the sequencer's turn and the host's two writes with an address can stop, each at one place. -/
theorem stopsByName : Obligations.StopsByName := by
  refine ⟨?_, ?_⟩
  · intro s r h
    cases hturns : s.turns with
    | nil =>
      rw [step_of_turns_nil hturns] at h
      obtain ⟨a, hr, hread⟩ := sequencerTurn_eq_fault h
      exact .inl ⟨a, hr, hread, .inl rfl⟩
    | cons m ms =>
      rw [step_of_turns_cons hturns] at h
      cases m with
      | host a =>
        obtain ⟨x, b, rfl, hr, hx⟩ := hostTurn_eq_fault h
        exact .inr ⟨x, b, hr, rfl, hx⟩
      | sequencer =>
        obtain ⟨a, hr, hread⟩ := sequencerTurn_eq_fault h
        exact .inl ⟨a, hr, hread, .inr rfl⟩
      | busEnv => cases h
      | powerOn => cases h
  · intro s r h
    cases hturns : s.turns with
    | nil =>
      rw [step_of_turns_nil hturns] at h
      exact absurd h (sequencerTurn_ne_refused s r)
    | cons m ms =>
      rw [step_of_turns_cons hturns] at h
      cases m with
      | host a =>
        obtain ⟨x, rfl, hr, hx⟩ := hostTurn_eq_refused h
        exact ⟨x, hr, rfl, hx⟩
      | sequencer => exact absurd h (sequencerTurn_ne_refused _ r)
      | busEnv => cases h
      | powerOn => cases h

/-! ## Frame and wire -/

/-- Settles O22: none of the eight things a turn of the sequencer can do writes one of these fields. -/
theorem sequencerFrame : Obligations.SequencerFrame := by
  intro s t h
  cases effect_of_sequencerTurn h <;>
    exact ⟨rfl, rfl, rfl, rfl, rfl, rfl, rfl, rfl, rfl, rfl, rfl, rfl, rfl, rfl, rfl, fun _ => rfl⟩

theorem trace_microOp (m : MicroOp) (s : State) : (m.run s).trace = s.trace ++ m.wires s.par := by
  cases m with
  | rst => exact (List.append_nil s.trace).symm
  | start => rfl
  | addr dir => rfl
  | byte x => rfl
  | stop => rfl

theorem wires_txnMicroOps (p : Params) (bytes : List Byte) :
    (txnMicroOps bytes).flatMap (·.wires p) = fullFrame p bytes := by
  have hbytes : (bytes.map MicroOp.byte).flatMap (·.wires p) = bytes.map .byte := by
    rw [List.flatMap_map]
    exact List.flatMap_pure_eq_map _ _
  simp only [txnMicroOps, List.flatMap_append, hbytes]
  simp [MicroOp.wires, fullFrame]

/-- Settles O25: one micro-op at a time, and the expansion as their row. -/
theorem microOpWire : Obligations.MicroOpWire :=
  ⟨trace_microOp, wires_txnMicroOps⟩

/-! ## Rows of the step table (R92) -/

theorem missedPoll_spinForever {s : State} (h : s.par.waitPolicy = .spinForever) : missedPoll s = s := by
  simp only [missedPoll, h]

theorem missedPoll_count {s : State} {n : Nat} (h : s.par.waitPolicy = .bounded n) (hlt : s.polls + 1 < n) :
    missedPoll s = { s with polls := s.polls + 1 } := by
  simp only [missedPoll, h, hlt, if_true]

theorem missedPoll_last {s : State} {n : Nat} (h : s.par.waitPolicy = .bounded n) (heq : s.polls + 1 = n) :
    missedPoll s = timeOut s := by
  simp [missedPoll, h, heq]

theorem sendPayload_of_stuck {k : Nat} {s : State} {a : Nat} (hx : s.pl[k]? = some (.mem a)) (hr : s.memRead a = none) :
    sendPayload k s = .fault (.stuckRead a) := by
  simp [sendPayload, hx, hr]

/-- A payload that starts with a literal never leaves the sequencer stuck in W_ADDR. -/
theorem sequencerTurn_wAddr_ne_fault {s : State} (hp : s.phase = .wAddr) (hpl : payloadOk s.pl) (r : Fault) :
    sequencerTurn s ≠ .fault r := by
  obtain ⟨⟨b, rest, hcons⟩, _⟩ := hpl
  cases he : s.evAddr with
  | true =>
    have hsend : sendPayload 0 (consumeAddr s) = .next _ :=
      sendPayload_of_fetch (x := .lit b) (by simp [hcons]) (fetch_lit _ b)
    rw [sequencerTurn_wAddr hp he, hsend]
    nofun
  | false =>
    rw [sequencerTurn_missed (isWait_wAddr hp) (by simp [State.awaited, hp, he])]
    nofun

/-- Settles O26: row by row. -/
theorem sequencerStepTable : Obligations.SequencerStepTable := by
  intro s
  refine ⟨?_, ?_, ?_, ?_, ?_, ?_, ?_, ?_, ?_⟩
  · exact fun i pl hp hb hpl => exec_txnCommand hp hb hpl
  · intro hp he
    rw [sequencerTurn_wSB hp he, ← addrByte_zero]
    rfl
  · intro x b hp he hx hf
    rw [sequencerTurn_wAddr hp he]
    exact sendPayload_of_fetch (s := consumeAddr s) hx hf
  · intro x b hp he hx hf
    rw [sequencerTurn_wBtf hp he]
    exact sendPayload_of_fetch (s := consumeBtf s) hx hf
  · intro hp he hidx
    rw [sequencerTurn_wBtf hp he]
    exact sendPayload_of_end (s := consumeBtf s) (List.getElem?_eq_none (Nat.le_of_eq hidx.symm))
  · intro n hw ha hn
    rw [sequencerTurn_missed hw ha]
    exact ⟨fun hlt => congrArg _ (missedPoll_count hn hlt), fun heq => congrArg _ (missedPoll_last hn heq)⟩
  · intro hw ha hspin t ht
    rw [sequencerTurn_missed hw ha, missedPoll_spinForever hspin] at ht
    exact (Host.Outcome.next.inj ht).symm
  · intro hp t ht
    have hw : s.phase.isWait = false := by obtain h | h | h := hp <;> rw [h] <;> rfl
    rw [sequencerTurn_of_not_isWait hw] at ht
    exact (Host.Outcome.next.inj ht).symm
  · exact fun hp hpl r => sequencerTurn_wAddr_ne_fault hp hpl r

/-- Settles O27: one case per wait, and the states in which the move changes nothing. -/
theorem busEnvMoves : Obligations.BusEnvMoves :=
  fun _ => ⟨busAnswer_wSB, busAnswer_wAddr, busAnswer_wBtf, busAnswer_of_not_isWait, busAnswer_of_awaited⟩

/-! ## Waits whose event never comes (R86, R91) -/

/-- Under SpinForever a wait whose flag is 0 holds. -/
theorem sequencerTurn_hold {s : State} (hspin : s.par.waitPolicy = .spinForever) (hw : s.phase.isWait = true)
    (ha : s.awaited = false) : sequencerTurn s = .next s := by
  rw [sequencerTurn_missed hw ha, missedPoll_spinForever hspin]

theorem run_hold_of_turns_nil {s : State} (hspin : s.par.waitPolicy = .spinForever) (hw : s.phase.isWait = true)
    (ha : s.awaited = false) (ht : s.turns = []) (k : Nat) : run k s = .next s := by
  have hstep : step s = .next s := (step_of_turns_nil ht).trans (sequencerTurn_hold hspin hw ha)
  induction k with
  | zero => rfl
  | succ k ih => rw [run_succ hstep, ih]

theorem run_hold_of_sequencerTurns {k : Nat} {s : State} {ts : List Move} (hspin : s.par.waitPolicy = .spinForever)
    (hw : s.phase.isWait = true) (ha : s.awaited = false) (ht : s.turns = List.replicate k .sequencer ++ ts) :
    run k s = .next { s with turns := ts } := by
  induction k generalizing s with
  | zero =>
    obtain rfl : s.turns = ts := ht
    rfl
  | succ k ih =>
    have hstep : step s = .next { s with turns := List.replicate k .sequencer ++ ts } :=
      (step_sequencer ht).trans (sequencerTurn_hold hspin hw ha)
    rw [run_succ hstep]
    exact ih hspin hw ha rfl

/-- Settles O28: a turn of the sequencer changes nothing, so no number of them does. -/
theorem spinForeverHolds : Obligations.SpinForeverHolds :=
  fun _ k hspin hw ha => ⟨fun ht => run_hold_of_turns_nil hspin hw ha ht k, fun _ => run_hold_of_sequencerTurns hspin hw ha⟩

/-- Poll misses short of the bound are counted, and nothing else changes. -/
theorem run_count {n k : Nat} {s : State} (hn : s.par.waitPolicy = .bounded n) (hw : s.phase.isWait = true)
    (ha : s.awaited = false) (ht : s.turns = []) (hlt : s.polls + k < n) :
    run k s = .next { s with polls := s.polls + k } := by
  induction k generalizing s with
  | zero => rfl
  | succ k ih =>
    have hstep : step s = .next { s with polls := s.polls + 1 } := by
      rw [step_of_turns_nil ht, sequencerTurn_missed hw ha, missedPoll_count hn (by omega)]
    have hlt' : s.polls + 1 + k < n := by omega
    have hrest := ih (s := { s with polls := s.polls + 1 }) hn hw ha ht hlt'
    rw [run_succ hstep, hrest, Nat.add_comm k 1, ← Nat.add_assoc]

/-- The miss that reaches the bound times out. -/
theorem step_timeOut {n : Nat} {s : State} (hn : s.par.waitPolicy = .bounded n) (hw : s.phase.isWait = true)
    (ha : s.awaited = false) (ht : s.turns = []) (hlast : s.polls + 1 = n) : step s = .next (timeOut s) := by
  rw [step_of_turns_nil ht, sequencerTurn_missed hw ha, missedPoll_last hn hlast]

/-- Settles O29: N - 1 misses are counted from POLLS = 0, and the step after them is the timeout. -/
theorem boundedWaitTimesOut : Obligations.BoundedWaitTimesOut := by
  intro s n hn hw ha hz ht
  have hcount : ∀ k, k < n → run k s = .next { s with polls := k } := by
    intro k hk
    simpa [hz] using run_count hn hw ha ht (k := k) (by omega)
  refine ⟨hcount, fun hpos => ?_⟩
  obtain ⟨m, rfl⟩ := Nat.exists_eq_add_of_le' hpos
  have hlast : step { s with polls := m } = .next (timeOut { s with polls := m }) := step_timeOut hn hw ha ht rfl
  rw [run_add, hcount m (Nat.lt_succ_self m)]
  exact run_succ hlast 0

/-! ## Buffer bytes (20_memory.md R44 to R47) -/

/-- A read outside the address space, or of a byte that is not readable, is not admitted. -/
theorem memRead_eq_none {s : State} {a : Nat} (h : 2 ^ s.par.addrWidth ≤ a ∨ s.readByte a = none) :
    s.memRead a = none := by
  obtain hle | hnone := h
  · exact if_neg (Nat.not_lt.mpr hle)
  · simp [State.memRead, hnone]

theorem sequencerTurn_stuck {s : State} {a : Nat} (hp : s.phase = .wBtf) (he : s.evBtf = true)
    (hx : s.pl[s.idx]? = some (.mem a)) (hr : s.memRead a = none) : sequencerTurn s = .fault (.stuckRead a) := by
  rw [sequencerTurn_wBtf hp he]
  exact sendPayload_of_stuck (s := consumeBtf s) hx hr

/-- Settles O30: buffer byte `k` has the source `b + k`, and a read past the end is not admitted. -/
theorem bufferAddressesDoNotWrap : Obligations.BufferAddressesDoNotWrap := by
  refine ⟨?_, ?_⟩
  · intro s o c b k hp hb hbase hk
    exact ⟨_, exec_wram_idle hp hb hbase, wramPayload_getElem?_buffer o c b k hk⟩
  · intro s b k hp he hx hle
    exact sequencerTurn_stuck hp he hx (memRead_eq_none (.inl hle))

/-- Settles O31: the read is admitted and the byte goes out, or it is not and the sequencer is stuck. -/
theorem bufferReadOrStuck : Obligations.BufferReadOrStuck := by
  intro s a hp he hx
  refine ⟨?_, fun h => sequencerTurn_stuck hp he hx (memRead_eq_none h)⟩
  intro b hlt hread
  have hf : (consumeBtf s).fetch (.mem a) = some b := (memRead_of_lt hlt).trans hread
  rw [sequencerTurn_wBtf hp he]
  exact ⟨_, sendPayload_of_fetch (s := consumeBtf s) hx hf, rfl, rfl, rfl⟩

/-! ## Whole transactions -/

/-- Settles O32: from W_SB the waits are answered one after the other. -/
theorem transactionRunsToCompletion : Obligations.TransactionRunsToCompletion :=
  fun _ _ _ hp hsb haddr hbtf hpl hf ht => run_wSB hp hsb haddr hbtf hpl hf ht

/-- A command whose payload is one literal sends that byte between the address and the stop. -/
theorem run_oneByteCommand {s : State} {i : Instr} {b : Byte} {ts : List Move} (hp : s.phase = .idle)
    (hb : s.busy = false) (hpl : txnPayload s i = some [.lit b]) (himg : imgAfter s i = s.img)
    (ht : s.turns = .host (.writeCmd (encode i)) :: answered 3 ++ ts) :
    ∃ t, run 7 s = .next t ∧ t.phase = .idle ∧ t.busy = false ∧ t.img = s.img ∧ t.turns = ts ∧
      t.trace = s.trace ++ [.start, .byte (addrByte s.par 0), .byte b, .stop] :=
  ⟨_, run_txnCommand (bytes := [b]) hp hb hpl rfl ht, rfl, rfl, himg, rfl, rfl⟩

/-- Settles O33: both commands are one-byte commands. -/
theorem enableDisableOnTheWire : Obligations.EnableDisableOnTheWire :=
  fun _ _ hp hb => ⟨run_oneByteCommand hp hb rfl rfl, run_oneByteCommand hp hb rfl rfl⟩

/-- Settles O38: the two payloads are not the same sources but send the same bytes. -/
theorem drawEqualsWram : Obligations.DrawEqualsWram := by
  intro s v f b ts m hp hb hbase hspace hdata
  have hwram := fetchAll_wramPayload (c := 4) 3 rfl hspace hdata
  have hdraw := run_txnCommand (s := { s with hmem := m, turns := .host (.writeCmd (encode (.draw v f))) :: answered 8 ++ ts })
    hp hb (txnPayload_draw _ v f) (fetchAll_drawPayload _ _) rfl
  have hwrite := run_txnCommand (s := { s with turns := .host (.writeCmd (encode (.wram 3 4))) :: answered 8 ++ ts })
    hp hb (txnPayload_wram 3 4 hbase) (fetchAll_of_same_memory hwram rfl rfl) rfl
  exact ⟨_, _, hdraw, hwrite, rfl, rfl, rfl, rfl⟩

end Sys2Proof.Machine
end

section
/-! Steps: which command runs, who writes what, and what every step keeps (00_scope.md R4, 10_state.md R20 to R34). -/

namespace Sys2Proof.Machine

/-! ## The command a step runs -/

theorem decode_of_decodeTableWord {w : Nat} {i : Instr} (h : decodeTableWord 32 w = some i) :
    decode (BitVec.ofNat 32 (w % 2 ^ 32)) = .ok i := by
  simp only [decodeTableWord, le_refl, if_true] at h
  split at h
  · rw [← Option.some.inj h]
    assumption
  · cases h

/-- Settles O7: the step that makes the move, and the load of a word as such a move. -/
theorem stepRunsDecodedCommand : Obligations.StepRunsDecodedCommand := by
  refine ⟨?_, ?_, ?_, ?_, ?_, ?_, ?_⟩
  · intro s w ts i ht hd _
    rw [step_of_turns_cons ht]
    exact hostTurn_writeCmd_of_decode hd _
  · intro s w i hw
    exact hostTurn_writeCmd_of_decode (decode_of_decodeTableWord hw) s
  · exact fun s a ts ht => step_of_turns_cons ht
  · exact fun s ts ht => step_sequencer ht
  · exact fun s ts ht => step_busEnv ht
  · exact fun s ts ht => step_powerOn ht
  · exact fun s ht => step_of_turns_nil ht

/-! ## TRACE and STATUS -/

theorem trace_of_effect {m : Move} {s t : State} (h : Effect m s t) (hm : m ≠ .powerOn) :
    t.trace = s.trace ∨ ∃ x, t.trace = s.trace ++ [x] := by
  cases h with
  | started => exact .inr ⟨_, rfl⟩
  | timedOut => exact .inr ⟨_, rfl⟩
  | addrSent => exact .inr ⟨_, rfl⟩
  | firstSent => exact .inr ⟨_, rfl⟩
  | emptyEnded => exact .inr ⟨_, rfl⟩
  | nextSent => exact .inr ⟨_, rfl⟩
  | ended => exact .inr ⟨_, rfl⟩
  | answered => exact .inl (busAnswer_trace s)
  | poweredOn => exact absurd rfl hm
  | _ => exact .inl rfl

theorem nextMove_ne_powerOn {s : State} (h : s.turns.head? ≠ some .powerOn) : s.nextMove ≠ .powerOn :=
  fun hm => h (head?_of_nextMove hm (by decide))

/-- Settles O54: every effect but power-on puts one symbol on the wire or none. -/
theorem traceIsAppendOnly : Obligations.TraceIsAppendOnly := by
  refine ⟨rfl, ?_⟩
  intro s t h hm
  obtain e | ⟨x, e⟩ := trace_of_effect (effect_of_step h) (nextMove_ne_powerOn hm)
  · exact ⟨[], by simpa using e, Nat.zero_le 1⟩
  · exact ⟨[x], e, Nat.le_refl 1⟩

theorem statusAgrees_iff (s : State) :
    s.statusAgrees ↔ (s.faulted = true ↔ s.phase = .fault) ∧ (s.busy = true ↔ s.phase.isWait = true) := by
  rw [State.statusAgrees, isWait_iff]

/-- Where STATUS agrees with PHASE it still does if FAULTED stays, PHASE stays outside FAULT, and BUSY says whether it is a wait. -/
theorem statusAgrees_of_not_fault {s t : State} (h : s.statusAgrees) (hs : s.phase ≠ .fault) (ht : t.phase ≠ .fault)
    (hf : t.faulted = s.faulted) (hb : t.busy = t.phase.isWait) : t.statusAgrees := by
  obtain ⟨hsf, _⟩ := h
  rw [statusAgrees_iff, hf, hsf, hb]
  exact ⟨iff_of_false hs ht, Iff.rfl⟩

theorem statusAgrees_of_effect {m : Move} {s t : State} (h : s.statusAgrees) (he : Effect m s t) : t.statusAgrees := by
  have hbusy := ((statusAgrees_iff s).mp h).2
  cases he with
  | raised => simp [State.statusAgrees]
  | imgFaulted => simp [State.statusAgrees]
  | initialised hd hp hb => exact statusAgrees_of_not_fault h hp (by simp) rfl hb
  | started hd hpl hoff hp hb => exact statusAgrees_of_not_fault h hp nofun rfl rfl
  | timedOut hw => exact statusAgrees_of_not_fault h (ne_fault_of_isWait hw) nofun rfl rfl
  | addrSent hp =>
    have hw := isWait_wSB hp
    exact statusAgrees_of_not_fault h (ne_fault_of_isWait hw) nofun rfl (hbusy.mpr hw)
  | firstSent hp =>
    have hw := isWait_wAddr hp
    exact statusAgrees_of_not_fault h (ne_fault_of_isWait hw) nofun rfl (hbusy.mpr hw)
  | emptyEnded hp => exact statusAgrees_of_not_fault h (by simp [hp]) nofun rfl rfl
  | nextSent hp =>
    have hw := isWait_wBtf hp
    exact statusAgrees_of_not_fault h (ne_fault_of_isWait hw) nofun rfl (hbusy.mpr hw)
  | ended hp => exact statusAgrees_of_not_fault h (by simp [hp]) nofun rfl rfl
  | answered => simpa [State.statusAgrees] using h
  | poweredOn => simp [State.statusAgrees, State.reset]
  | _ => exact h

theorem statusAgrees_reset : State.reset.statusAgrees := by simp [State.statusAgrees, State.reset]

/-- Settles O58: the reset state agrees, and every effect keeps the agreement. -/
theorem statusAgreesWithPhase : Obligations.StatusAgreesWithPhase :=
  ⟨statusAgrees_reset, fun _ _ hs h => step_keeps (P := State.statusAgrees) (fun _ _ hp => hp)
    (fun _ _ _ he hp => statusAgrees_of_effect hp he) hs h⟩

/-- The reset state is the result of a power-on reset. -/
theorem inv_reset : State.reset.Inv :=
  powerOnReset_reset ▸ inv_powerOnReset (s := State.reset) params_wellFormed reset_mem_wf nofun

/-- Settles O56: each of the three holds of the reset state. -/
theorem resetMeetsInvariants : Obligations.ResetMeetsInvariants :=
  ⟨inv_reset, statusAgrees_reset, [], [], nofun, rfl, rfl⟩

/-! ## Who writes IMG (10_state.md R23) -/

theorem img_of_effect {m : Move} {s t : State} (h : Effect m s t) :
    t.img = s.img ∨ m = .powerOn ∨ ∃ w v f, m = .host (.writeCmd w) ∧
      (decode w = .ok (.encode v f) ∨ decode w = .ok (.draw v f)) ∧ t.img = some (enc s.par v f) := by
  cases h with
  | @encoded _ w v f hd => exact .inr (.inr ⟨w, v, f, rfl, .inl hd, rfl⟩)
  | @started _ w i pl hd =>
    cases i with
    | encode v f => exact .inr (.inr ⟨w, v, f, rfl, .inl hd, rfl⟩)
    | draw v f => exact .inr (.inr ⟨w, v, f, rfl, .inr hd, rfl⟩)
    | _ => exact .inl rfl
  | answered => exact .inl (busAnswer_img s)
  | poweredOn => exact .inr (.inl rfl)
  | _ => exact .inl rfl

/-- Settles O51: by the move of the step. -/
theorem imgWriters : Obligations.ImgWriters := by
  intro s t h hne
  obtain e | hm | ⟨w, v, f, hm, hd, himg⟩ := img_of_effect (effect_of_step h)
  · exact absurd e hne
  · exact .inl (head?_of_nextMove hm (by decide))
  · exact .inr ⟨w, v, f, head?_of_nextMove hm nofun, hd, himg⟩

/-! ## Who writes the other elements (10_state.md R21, R22, R26) -/

theorem par_of_effect {m : Move} {s t : State} (h : Effect m s t) : t.par = s.par := by
  cases h with
  | answered => exact busAnswer_par s
  | _ => rfl

theorem ready_of_effect {m : Move} {s t : State} (h : Effect m s t) :
    (t.ready = s.ready ∧ t.clkEn = s.clkEn ∧ t.pinsCfg = s.pinsCfg) ∨
    (m = .powerOn ∧ t.ready = false ∧ t.clkEn = false ∧ t.pinsCfg = false) ∨
    (∃ w, m = .host (.writeCmd w) ∧ decode w = .ok .init ∧ t.ready = true ∧ t.clkEn = true ∧ t.pinsCfg = true) := by
  cases h with
  | initialised hd => exact .inr (.inr ⟨_, rfl, hd, rfl, rfl, rfl⟩)
  | answered => exact .inl ⟨busAnswer_ready s, busAnswer_clkEn s, busAnswer_pinsCfg s⟩
  | poweredOn => exact .inr (.inl ⟨rfl, rfl, rfl, rfl⟩)
  | _ => exact .inl ⟨rfl, rfl, rfl⟩

theorem periph_of_effect {m : Move} {s t : State} (h : Effect m s t) :
    (t.pe = s.pe ∧ t.cfg = s.cfg) ∨ (m = .powerOn ∧ t.pe = false ∧ t.cfg = .unconfigured) ∨
    (∃ w i, m = .host (.writeCmd w) ∧ decode w = .ok i ∧ (i = .init ∨ ∃ pl, txnPayload s i = some pl) ∧
      t.pe = true ∧ t.cfg = .configured fixedCfg) := by
  cases h with
  | initialised hd => exact .inr (.inr ⟨_, _, rfl, hd, .inl rfl, rfl, rfl⟩)
  | started hd hpl => exact .inr (.inr ⟨_, _, rfl, hd, .inr ⟨_, hpl⟩, rfl, rfl⟩)
  | answered => exact .inl ⟨busAnswer_pe s, busAnswer_cfg s⟩
  | poweredOn => exact .inr (.inl ⟨rfl, rfl, rfl⟩)
  | _ => exact .inl ⟨rfl, rfl⟩

theorem base_of_effect {m : Move} {s t : State} (h : Effect m s t) :
    t.base = s.base ∨ (m = .powerOn ∧ t.base = none) ∨ ∃ b, m = .host (.writeBase b) ∧ t.base = some b := by
  cases h with
  | baseWritten => exact .inr (.inr ⟨_, rfl, rfl⟩)
  | answered => exact .inl (busAnswer_base s)
  | poweredOn => exact .inr (.inl ⟨rfl, rfl⟩)
  | _ => exact .inl rfl

theorem read_write_self (m : Memory) (a : Nat) (b : Byte) : (m.write a b).read a = some b := by
  induction m with
  | nil => simp [Memory.write, Memory.read]
  | cons c rest ih =>
    unfold Memory.write
    split
    · simp [Memory.read]
    · split
      · simp [Memory.read]
      · rename_i hne
        simpa [Memory.read, hne] using ih

theorem read_write_of_ne (m : Memory) {a x : Nat} (b : Byte) (h : x ≠ a) : (m.write a b).read x = m.read x := by
  induction m with
  | nil => simp [Memory.write, Memory.read, h.symm]
  | cons c rest ih =>
    unfold Memory.write
    split
    · simp [Memory.read, h.symm]
    · split
      · rename_i heq
        simp [Memory.read, heq, h.symm]
      · simp [Memory.read, ih]

theorem readByte_of_effect {m : Move} {s t : State} (h : Effect m s t) (a : Nat) :
    t.readByte a = s.readByte a ∨ ∃ b, m = .host (.writeMem a b) := by
  cases h with
  | @memWritten _ x b =>
    by_cases hx : a = x
    · exact .inr ⟨b, by rw [hx]⟩
    · exact .inl (read_write_of_ne s.hmem b hx)
  | answered => exact .inl (by rw [State.readByte, busAnswer_hmem]; rfl)
  | _ => exact .inl rfl

theorem step_of_decode {s : State} {w : CmdWord} {i : Instr} (hw : s.turns.head? = some (.host (.writeCmd w)))
    (hd : decode w = .ok i) : step s = exec i { s with turns := s.turns.tail } := by
  obtain ⟨ts, hts⟩ := List.head?_eq_some_iff.mp hw
  rw [step_of_turns_cons hts, makeMove, hostTurn_writeCmd_of_decode hd, hts, List.tail_cons]

/-- Settles O52: each clause by what an effect does to its fields; the last two by what an accepted command answers. -/
theorem whoWritesWhat : Obligations.WhoWritesWhat := by
  intro s t h
  have he := effect_of_step h
  refine ⟨(par_of_effect he :), ?_, ?_, ?_, ?_, ?_, ?_⟩
  · intro hne
    obtain ⟨hr, hc, hp⟩ | ⟨hm, hval⟩ | ⟨w, hm, hval⟩ := ready_of_effect he
    · exact absurd hne (by simp [hr, hc, hp])
    · exact .inl ⟨head?_of_nextMove hm (by decide), hval⟩
    · exact .inr ⟨w, head?_of_nextMove hm nofun, hval⟩
  · intro hne
    obtain ⟨hpe, hcfg⟩ | ⟨hm, hval⟩ | ⟨w, i, hm, hd, hi, hval⟩ := periph_of_effect he
    · exact absurd hne (by simp [hpe, hcfg])
    · exact .inl ⟨head?_of_nextMove hm (by decide), hval⟩
    · have hi' : i = .init ∨ ∃ pl, txnPayload s i = some pl :=
        hi.imp_right fun ⟨pl, hpl⟩ => ⟨pl, (txnPayload_congr rfl rfl i).trans hpl⟩
      exact .inr ⟨w, i, head?_of_nextMove hm nofun, hd, hi', hval⟩
  · intro hne
    obtain e | ⟨hm, hval⟩ | ⟨b, hm, hval⟩ := base_of_effect he
    · exact absurd e hne
    · exact .inl ⟨head?_of_nextMove hm (by decide), hval⟩
    · exact .inr ⟨b, head?_of_nextMove hm nofun, hval⟩
  · intro a hne
    obtain e | ⟨b, hm⟩ := readByte_of_effect he a
    · exact absurd e hne
    · exact ⟨b, head?_of_nextMove hm nofun⟩
  · intro w hw hd hp hb
    have hexec := exec_init_free (s := { s with turns := s.turns.tail }) hp hb
    rw [step_of_decode hw hd, hexec] at h
    cases h
    exact ⟨rfl, rfl, rfl, rfl, rfl⟩
  · intro w i pl hw hd hpl hp hoff hb
    have hpl' : txnPayload { s with turns := s.turns.tail } i = some pl := (txnPayload_congr rfl rfl i).trans hpl
    rw [step_of_decode hw hd, exec_txnCommand_free hpl' hoff hp hb] at h
    cases h
    exact ⟨rfl, rfl⟩

/-! ## Host ports and host memory (10_state.md R21, R22, 20_memory.md R45) -/

/-- Settles O53: reading after a write, at the address written and elsewhere. -/
theorem hostMemoryReadAfterWrite : Obligations.HostMemoryReadAfterWrite :=
  fun s a b ha => ⟨_, if_pos ha, read_write_self s.hmem a b, fun _ hx => read_write_of_ne s.hmem b hx, rfl⟩

/-- Settles O48: a value of ADDR_WIDTH bits is kept, and the read of STATUS writes the reply alone. -/
theorem baseAndStatusPorts : Obligations.BaseAndStatusPorts :=
  ⟨fun _ _ hb => if_pos hb, fun _ => rfl⟩

end Sys2Proof.Machine
end

section
/-! Commands: how they start, where they trap and what they leave unchanged (60_exceptions.md R161, 41_display_protocol.md). -/

namespace Sys2Proof.Machine

/-- Settles O6: seven of the words are encoded words, and the other three are decoded as they stand. -/
theorem sampleWordsDecode : Obligations.SampleWordsDecode :=
  ⟨decode_encode .init, decode_encode .enable, decode_encode .disable, decode_encode (.wram 0x05 2),
    decode_encode (.wram 0xFF 255), decode_encode (.encode 0x2000 true), decode_encode (.draw 0x1000 false),
    by decide, by decide, by decide⟩

/-! ## Acceptance of the transaction commands -/

/-- Settles O16: the acceptance row, for each of the three payloads. -/
theorem displayCommandsStart : Obligations.DisplayCommandsStart :=
  fun _ hp hb => ⟨exec_txnCommand hp hb rfl, exec_txnCommand hp hb rfl,
    fun o c _ hbase => exec_txnCommand hp hb (txnPayload_wram o c hbase)⟩

/-- Settles O18: the acceptance row, with IMG written first. -/
theorem drawStart : Obligations.DrawStart :=
  fun s v f hp hb => exec_txnCommand hp hb (txnPayload_draw s v f)

/-- Settles O39: acceptance writes every one of these fields, and IMG and the payload do not depend on what they held. -/
theorem configuredAfterAcceptance : Obligations.ConfiguredAfterAcceptance := by
  refine ⟨?_, ?_⟩
  · exact fun s i pl hp hb hpl => ⟨_, exec_txnCommand hp hb hpl, rfl, rfl, rfl, rfl, rfl, rfl, rfl⟩
  · intro s i pl pe swrst evSB evAddr evBtf timeout cfg polls pl' idx hp hb hpl
    let u : State := { s with pe := pe, swrst := swrst, evSB := evSB, evAddr := evAddr, evBtf := evBtf, timeout := timeout,
                              cfg := cfg, polls := polls, pl := pl', idx := idx }
    have hplu : txnPayload u i = some pl := (txnPayload_congr rfl rfl i).trans hpl
    have himg : imgAfter u i = imgAfter s i := imgAfter_congr rfl rfl i
    have hu := exec_txnCommand (s := u) hp hb hplu
    rw [himg] at hu
    exact hu.trans (exec_txnCommand hp hb hpl).symm

/-- Settles O40: PL is the command's payload, whose shape is read off its definition. -/
theorem payloadShapes : Obligations.PayloadShapes := by
  intro s t i pl hp hb hpl h
  rw [exec_txnCommand hp hb hpl] at h
  obtain rfl := Host.Outcome.next.inj h
  have hok : payloadOk pl := payloadOk_of_txnPayload hpl
  refine ⟨hok, ?_, ?_, ?_⟩
  · rintro (rfl | rfl) <;> cases hpl <;> rfl
  · rintro o c rfl
    obtain ⟨b, _, rfl⟩ := Option.map_eq_some_iff.mp hpl
    refine ⟨?_, hok.2, _, _, _, rfl, ?_⟩
    · simp [State.txnStarted, Nat.add_comm 2]
    · intro z hz
      obtain ⟨k, _, rfl⟩ := List.mem_map.mp hz
      exact ⟨_, rfl⟩
  · rintro v f rfl
    cases hpl
    refine ⟨rfl, ?_⟩
    intro z hz
    obtain ⟨x, _, rfl⟩ : ∃ x ∈ 0x44 :: 3 :: (enc s.par v f).bytes, ByteSource.lit x = z := List.mem_map.mp hz
    exact ⟨x, rfl⟩

/-! ## Faults -/

/-- Settles O10: by the definition of `raise`. -/
theorem raiseChangesOnlyStatusAndPhase : Obligations.RaiseChangesOnlyStatusAndPhase :=
  raise_eq_faultedWith

/-- Settles O12: the two last checks of acceptance. -/
theorem transactionTraps : Obligations.TransactionTraps :=
  ⟨fun s hp hb => ⟨exec_txnCommand_off rfl hp hb, exec_txnCommand_off rfl hp hb,
    fun o c _ hbase => exec_txnCommand_off (txnPayload_wram o c hbase) hp hb,
    fun v f => exec_txnCommand_off (txnPayload_draw s v f) hp hb⟩,
   fun _ o c hp hb hbase => exec_wram_of_base_none o c hp hb hbase⟩

/-- The five fields of STATUS do not overlap (60_exceptions.md R175). -/
theorem status_toNat (s : State) : s.status.toNat =
    s.fcode.code.toNat * 16 + s.faulted.toNat * 8 + s.timeout.toNat * 4 + s.ready.toNat * 2 + s.busy.toNat := by
  have hbits : ∀ (c : BitVec 4) (f t r b : Bool),
      ((c.setWidth 8 <<< 4) ||| (bit f <<< 3) ||| (bit t <<< 2) ||| (bit r <<< 1) ||| bit b).toNat =
        c.toNat * 16 + f.toNat * 8 + t.toNat * 4 + r.toNat * 2 + b.toNat := by decide
  exact hbits _ _ _ _ _

/-- Settles O14: the formula bit by bit, and each worked value by the lemma that says what its action answers. -/
theorem statusAfterFaults : Obligations.StatusAfterFaults := by
  have hinit : exec .init State.reset = .next (initBody State.reset) := exec_init_free (by decide) rfl
  refine ⟨status_toNat, rfl, rfl, rfl, rfl, rfl, ?_, ⟨_, hinit, ?_, ?_, ?_⟩, ?_⟩
  · exact ⟨_, exec_txnCommand_off rfl rfl rfl, rfl⟩
  · rw [illegalWord, accept_free _ (initBody State.reset) (by simp) rfl]
    rfl
  · exact ⟨_, exec_txnCommand rfl rfl rfl, fun w => ⟨_, hostTurn_writeCmd_busy w nofun rfl, rfl⟩⟩
  · exact ⟨_, congrArg Host.Outcome.next (hostReadImg_none rfl (by simp)), rfl⟩
  · exact ⟨_, congrArg Host.Outcome.next (hostReadImg_none rfl (by decide)), rfl⟩

/-! ## Frames -/

/-- Everything a command can do. -/
theorem exec_cases {i : Instr} {s t : State} (h : exec i s = .next t) :
    t = s ∨ (∃ c, t = raise c s) ∨ (i = .init ∧ t = initBody s) ∨ (∃ v f, i = .encode v f ∧ t = encodeBody v f s) ∨
    (∃ pl, txnPayload s i = some pl ∧ t = { s with img := imgAfter s i }.txnStarted pl) := by
  have hd := decode_encode i
  generalize hw : encode i = w at hd
  have he : Effect (.host (.writeCmd w)) s t := effect_of_hostTurn ((hostTurn_writeCmd_of_decode hd s).trans h)
  cases he with
  | ignored => exact .inl rfl
  | raised => exact .inr (.inl ⟨_, rfl⟩)
  | initialised hi => exact .inr (.inr (.inl ⟨Except.ok.inj (hd.symm.trans hi), rfl⟩))
  | encoded hi => exact .inr (.inr (.inr (.inl ⟨_, _, Except.ok.inj (hd.symm.trans hi), rfl⟩)))
  | started hi hpl =>
    obtain rfl := Except.ok.inj (hd.symm.trans hi)
    exact .inr (.inr (.inr (.inr ⟨_, hpl, rfl⟩)))

/-- DRAW_DIGITS is the one transaction command that writes IMG. -/
theorem imgAfter_of_txnPayload {s : State} {i : Instr} {pl : List ByteSource} (hpl : txnPayload s i = some pl)
    (hi : ∀ v f, i ≠ .draw v f) : imgAfter s i = s.img := by
  cases i with
  | encode v f => cases hpl
  | draw v f => exact absurd rfl (hi v f)
  | _ => rfl

/-- Settles O19: a transaction command is ignored, faults or starts its transaction. -/
theorem transactionFrame : Obligations.TransactionFrame := by
  intro i s t hi h
  obtain rfl | ⟨c, rfl⟩ | ⟨rfl, _⟩ | ⟨v, f, rfl, _⟩ | ⟨pl, hpl, rfl⟩ := exec_cases h
  · exact ⟨rfl, rfl, rfl, rfl, rfl, rfl, rfl, rfl, fun _ => rfl, fun _ => rfl⟩
  · exact ⟨rfl, rfl, rfl, rfl, rfl, rfl, rfl, rfl, fun _ => rfl, fun _ => rfl⟩
  · simp at hi
  · simp at hi
  · exact ⟨rfl, rfl, rfl, rfl, rfl, rfl, rfl, rfl, fun _ => rfl, imgAfter_of_txnPayload hpl⟩

/-- Settles O20: ENCODE is ignored, faults or completes. -/
theorem encodeFrame : Obligations.EncodeFrame := by
  intro v f s t h
  obtain rfl | ⟨c, rfl⟩ | ⟨hi, _⟩ | ⟨v', f', _, rfl⟩ | ⟨pl, hpl, _⟩ := exec_cases h
  · exact ⟨rfl, rfl, rfl, rfl, rfl, rfl, rfl, rfl, rfl, rfl, rfl, rfl, rfl, rfl, rfl, rfl, rfl, rfl, fun _ => rfl,
      .inl ⟨rfl, rfl, rfl, rfl⟩⟩
  · exact ⟨rfl, rfl, rfl, rfl, rfl, rfl, rfl, rfl, rfl, rfl, rfl, rfl, rfl, rfl, rfl, rfl, rfl, rfl, fun _ => rfl,
      .inr ⟨rfl, rfl, rfl⟩⟩
  · cases hi
  · exact ⟨rfl, rfl, rfl, rfl, rfl, rfl, rfl, rfl, rfl, rfl, rfl, rfl, rfl, rfl, rfl, rfl, rfl, rfl, fun _ => rfl,
      .inl ⟨rfl, rfl, rfl, rfl⟩⟩
  · cases hpl

/-- Settles O21: INIT is ignored, faults or completes. -/
theorem initFrame : Obligations.InitFrame := by
  intro s t h
  obtain rfl | ⟨c, rfl⟩ | ⟨_, rfl⟩ | ⟨v, f, hi, _⟩ | ⟨pl, hpl, _⟩ := exec_cases h
  · exact ⟨rfl, rfl, rfl, rfl, rfl, rfl, rfl, rfl, rfl, fun _ => rfl, .inl ⟨rfl, rfl, rfl⟩⟩
  · exact ⟨rfl, rfl, rfl, rfl, rfl, rfl, rfl, rfl, rfl, fun _ => rfl,
      .inr ⟨rfl, rfl, rfl, rfl, rfl, rfl, rfl, rfl, rfl, rfl, rfl, rfl⟩⟩
  · exact ⟨rfl, rfl, rfl, rfl, rfl, rfl, rfl, rfl, rfl, fun _ => rfl, .inl ⟨rfl, rfl, rfl⟩⟩
  · cases hi
  · cases hpl

end Sys2Proof.Machine
end

section
/-! The segment encoder: validity, the closed form and what follows from it (42_segment_encoder.md R121, R124, R125, R128). -/

namespace Sys2Proof.Machine

/-! ## Validity (R121) -/

/-- A value under the mask of one nibble is that nibble at its place. -/
theorem and_nibbleMask (v : Value) (k : Nat) :
    v &&& (BitVec.allOnes 4).setWidth 16 <<< k = (v.extractLsb' k 4).setWidth 16 <<< k := by
  apply BitVec.eq_of_getElem_eq
  intro i hi
  simp only [BitVec.getElem_and, BitVec.getElem_shiftLeft, BitVec.getElem_setWidth, BitVec.getLsbD_allOnes,
    BitVec.getLsbD_extractLsb']
  by_cases hlow : i < k
  · simp [hlow]
  · simp [hlow, show k + (i - k) = i by omega, BitVec.getLsbD_eq_getElem hi, Bool.and_comm]

/-- The four masked comparisons are comparisons of the four nibbles. -/
theorem invalid_iff (v : Value) :
    invalid v = true ↔ 2 ≤ (thousands v).toNat ∨ 10 ≤ (hundreds v).toNat ∨ 10 ≤ (tens v).toNat ∨ 10 ≤ (units v).toNat := by
  have h3 : ∀ d : Nibble, d.setWidth 16 <<< 12 > (0x1000 : Value) ↔ 2 ≤ d.toNat := by decide
  have h2 : ∀ d : Nibble, d.setWidth 16 <<< 8 > (0x0900 : Value) ↔ 10 ≤ d.toNat := by decide
  have h1 : ∀ d : Nibble, d.setWidth 16 <<< 4 > (0x0090 : Value) ↔ 10 ≤ d.toNat := by decide
  have h0 : ∀ d : Nibble, d.setWidth 16 <<< 0 > (0x0009 : Value) ↔ 10 ≤ d.toNat := by decide
  have m3 : v &&& (0xF000 : Value) = (thousands v).setWidth 16 <<< 12 := and_nibbleMask v 12
  have m2 : v &&& (0x0F00 : Value) = (hundreds v).setWidth 16 <<< 8 := and_nibbleMask v 8
  have m1 : v &&& (0x00F0 : Value) = (tens v).setWidth 16 <<< 4 := and_nibbleMask v 4
  have m0 : v &&& (0x000F : Value) = (units v).setWidth 16 <<< 0 := and_nibbleMask v 0
  simp only [invalid, Bool.or_eq_true, decide_eq_true_eq, or_assoc, m3, m2, m1, m0, h3, h2, h1, h0]

theorem valid_iff (v : Value) :
    invalid v = false ↔ (thousands v).toNat < 2 ∧ (hundreds v).toNat < 10 ∧ (tens v).toNat < 10 ∧ (units v).toNat < 10 := by
  rw [← Bool.not_eq_true, invalid_iff]
  omega

/-- A value is the number its four nibbles write in base 16. -/
theorem value_toNat (v : Value) :
    v.toNat = (thousands v).toNat * 4096 + (hundreds v).toNat * 256 + (tens v).toNat * 16 + (units v).toNat := by
  simp only [thousands, hundreds, tens, units, BitVec.extractLsb'_toNat, Nat.shiftRight_eq_div_pow]
  omega

theorem le_of_valid {v : Value} (h : invalid v = false) : v ≤ 0x1999 := by
  obtain ⟨h3, h2, h1, h0⟩ := (valid_iff v).mp h
  have hv := value_toNat v
  have hle : v.toNat ≤ 0x1999 := by omega
  exact BitVec.le_def.mpr hle

/-- Settles O41: the comparisons as quoted, and nibble by nibble. -/
theorem validityTest : Obligations.ValidityTest :=
  fun v => ⟨by simp only [invalid, Bool.or_eq_true, decide_eq_true_eq, or_assoc], invalid_iff v, le_of_valid, by decide⟩

/-! ## The closed form (R125) -/

theorem entry_eq_some {t : DigitTable} {d : Nibble} (h : d.toNat < 10) : ∃ m, entry t d = some m :=
  ⟨_, Vector.getElem?_eq_getElem h⟩

theorem and_thousandsMask_eq_iff (v : Value) : v &&& 0xF000 = 0x1000 ↔ thousands v = 1 := by
  have hdigit : ∀ d : Nibble, d.setWidth 16 <<< 12 = (0x1000 : Value) ↔ d = 1 := by decide
  rw [and_thousandsMask, hdigit]

/-- The image of a value whose digits have the masks `u`, `t` and `h`. -/
def closedForm (u t h : Mask) (v : Value) (f : Bool) : Image :=
  { b0 := u.prim
    b1 := u.sec ||| t.prim ||| (if f then 0x10 else 0)
    b2 := t.sec ||| h.prim
    b3 := h.sec ||| (if thousands v = 1 then 0x20 else 0) }

/-- Drawing the three digits over the markers gives the closed form. -/
theorem draw_eq_closedForm (u t h : Mask) (v : Value) (f : Bool) :
    drawHundreds h (drawTens t (drawUnits u (markers v f))) = closedForm u t h v f := by
  simp only [drawHundreds, drawTens, drawUnits, markers, closedForm, and_thousandsMask_eq_iff, fracBit, thouBit]
  congr 1
  · exact BitVec.zero_or
  · rw [BitVec.or_assoc, BitVec.or_comm]
  · simp
  · exact BitVec.or_comm _ _

/-- A valid value has its three masks, whatever F is. -/
theorem enc_of_valid (p : Params) {v : Value} (hv : invalid v = false) :
    ∃ u t h, entry p.unitsTab (units v) = some u ∧ entry p.tensTab (tens v) = some t ∧
      entry p.hundredsTab (hundreds v) = some h ∧ ∀ f, enc p v f = closedForm u t h v f := by
  obtain ⟨_, h2, h1, h0⟩ := (valid_iff v).mp hv
  obtain ⟨u, hu⟩ := entry_eq_some (t := p.unitsTab) h0
  obtain ⟨t, ht⟩ := entry_eq_some (t := p.tensTab) h1
  obtain ⟨h, hh⟩ := entry_eq_some (t := p.hundredsTab) h2
  refine ⟨u, t, h, hu, ht, hh, fun f => ?_⟩
  rw [← draw_eq_closedForm]
  simp [enc, hv, hu, ht, hh]

/-- Settles O43: the closed form, and that OR with bytes in any order is the same. -/
theorem encoderClosedForm : Obligations.EncoderClosedForm := by
  refine ⟨fun p v f h => enc_of_invalid p f h, ?_, ?_⟩
  · intro p v f hv
    obtain ⟨u, t, h, hu, ht, hh, he⟩ := enc_of_valid p hv
    exact ⟨u, t, h, hu, ht, hh, he f⟩
  · intro u t h img point thousand hpoint hthousand
    have hcomm : ∀ a b c : Byte, a ||| b ||| c = a ||| c ||| b := fun a b c => by
      rw [BitVec.or_assoc, BitVec.or_comm b, ← BitVec.or_assoc]
    simp only [hpoint, hthousand, drawUnits, drawTens, drawHundreds, hcomm, and_self]

/-- Settles O44: F occurs in one byte of the closed form. -/
theorem fractionSetsOneBit : Obligations.FractionSetsOneBit := by
  intro p v hv
  obtain ⟨u, t, h, _, _, _, he⟩ := enc_of_valid p hv
  rw [he true, he false]
  simp [closedForm]

/-- Settles O45: N3 occurs in one byte of the closed form. -/
theorem thousandsMarker : Obligations.ThousandsMarker := by
  intro p v f hv
  obtain ⟨u, t, h, _, _, hh, he⟩ := enc_of_valid p hv
  rw [he f]
  refine ⟨h, hh, fun h1 => ?_, fun h0 => ?_⟩
  · have hb3 : (closedForm u t h v f).b3 = h.sec ||| 0x20 := by simp [closedForm, thousands, h1]
    rw [hb3]
    exact ⟨rfl, by simp⟩
  · simp [closedForm, thousands, h0]

/-- Settles O46: each byte of the closed form names the masks of two digits at most, and a digit has one mask. -/
theorem byteIndependence : Obligations.ByteIndependence := by
  intro p v v' f f' hv hv'
  obtain ⟨u, t, h, hu, ht, hh, he⟩ := enc_of_valid p hv
  obtain ⟨u', t', h', hu', ht', hh', he'⟩ := enc_of_valid p hv'
  have hunits : units v = units v' → u = u' := fun e => Option.some.inj (by rw [← hu, ← hu', e])
  have htens : tens v = tens v' → t = t' := fun e => Option.some.inj (by rw [← ht, ← ht', e])
  have hhundreds : hundreds v = hundreds v' → h = h' := fun e => Option.some.inj (by rw [← hh, ← hh', e])
  rw [he f, he' f']
  refine ⟨fun e0 => ?_, fun e0 e1 ef => ?_, fun e1 e2 => ?_, fun e2 e3 => ?_⟩
  · rw [hunits e0]
    rfl
  · rw [hunits e0, htens e1, ef]
    rfl
  · rw [htens e1, hhundreds e2]
    rfl
  · simp only [closedForm, hhundreds e2, e3]

/-! ## The digit-0 constraint (R124) -/

/-- The thousands marker apart, 0x1000 has the digits of 0x0000. -/
theorem enc_thousand (p : Params) (f : Bool) : enc p 0x1000 f =
    drawHundreds p.hundredsTab[0] (drawTens p.tensTab[0] (drawUnits p.unitsTab[0] (markers 0x1000 f))) := rfl

theorem enc_thousand_of_digit0 {p : Params} (f : Bool) (h : p.digit0 = true) :
    enc p 0x1000 f = { b0 := 0x1F, b1 := (if f then fracBit else 0) ||| 0xAF, b2 := 0x9D, b3 := 0x70 } := by
  obtain ⟨hb0, hb1, hb2, hb3⟩ := (digit0_iff p).mp h
  rw [enc_thousand]
  simp [drawHundreds, drawTens, drawUnits, markers, BitVec.or_assoc, hb0, hb1, hb2, hb3, thouBit]

/-- Settles O47: the images under the constraint, which the tables at reset meet. -/
theorem digitZeroImages : Obligations.DigitZeroImages :=
  ⟨fun _ h => ⟨enc_zero_of_digit0 false h, enc_zero_of_digit0 true h, enc_thousand_of_digit0 false h,
    enc_thousand_of_digit0 true h⟩, params_digit0⟩

/-! ## The IMG word (10_state.md R23) -/

/-- A byte at one of the four places of a word is seen there and nowhere else. -/
theorem extractByte_shift (b : Byte) (j : Nat) {k : Nat} (hk : k < 4) :
    (b.setWidth 32 <<< (8 * j)).extractLsb' (8 * k) 8 = if j = k then b else 0 := by
  apply BitVec.eq_of_getElem_eq
  intro i hi
  rw [BitVec.getElem_extractLsb', BitVec.getLsbD_shiftLeft, BitVec.getLsbD_setWidth]
  obtain hlt | rfl | hgt := Nat.lt_trichotomy j k
  · have hbit : b.getLsbD (8 * k + i - 8 * j) = false := BitVec.getLsbD_of_ge _ _ (by omega)
    simp [hbit, hlt.ne]
  · simp [BitVec.getLsbD_eq_getElem hi, show 8 * j + i < 32 by omega, show i < 32 by omega]
  · simp [hgt.ne', show 8 * k + i < 8 * j by omega]

/-- The byte of the IMG word at place `k`. -/
theorem word_extractByte (img : Image) {k : Nat} (hk : k < 4) : img.word.extractLsb' (8 * k) 8 =
    (if 3 = k then img.b3 else 0) ||| (if 2 = k then img.b2 else 0) ||| (if 1 = k then img.b1 else 0) |||
      (if 0 = k then img.b0 else 0) := by
  have hword : img.word = img.b3.setWidth 32 <<< (8 * 3) ||| img.b2.setWidth 32 <<< (8 * 2) |||
      img.b1.setWidth 32 <<< (8 * 1) ||| img.b0.setWidth 32 <<< (8 * 0) := by simp [Image.word]
  simp only [hword, BitVec.extractLsb'_or, extractByte_shift _ _ hk]

/-- Settles O50: place by place. -/
theorem imgPacking : Obligations.ImgPacking := by
  intro img
  refine ⟨?_, ?_, ?_, ?_⟩
  · simpa using word_extractByte img (k := 0) (by decide)
  · simpa using word_extractByte img (k := 1) (by decide)
  · simpa using word_extractByte img (k := 2) (by decide)
  · simpa using word_extractByte img (k := 3) (by decide)

end Sys2Proof.Machine
end
